-- ==== Sys2Proof/Word.lean ====
section
/-! DEFINITION. The byte and the few plain bit operations the spec's notation uses (00 R19). -/

namespace Sys2Proof

/-- A byte is 8 bits, unsigned (00 R19, 93 K1). -/
abbrev Byte := BitVec 8

/-- 8-bit increment with wrap, `(c + 1) mod 256` (00 R19, 10 R32). -/
abbrev Byte.succ (b : Byte) : Byte := b + 1#8

end Sys2Proof
end

