-- ==== Sys2Proof/Syntax.lean ====
section
/-! DEFINITION. The names the rules use for ports, buffers, directions and durations, and `Instr`: one constructor for
each of the 49 rows of spec/opcode_table.json, in the table's order. -/

namespace Sys2Proof

/-- The two device roles; a channel and a port are named alike (00 R21, 41 R80). -/
inductive Port where
  | lcd
  | pb
  deriving DecidableEq, Repr, Inhabited

/-- The four frame buffers, in the order of their addresses (10 R33, 20 R40). -/
inductive Buf where
  | lcdTx
  | lcdRx
  | pbTx
  | pbRx
  deriving DecidableEq, Repr, Inhabited

/-- The two directions of the Overwrite Hook (00 R17). -/
inductive Dir where
  | lcd2pb
  | pb2lcd
  deriving DecidableEq, Repr, Inhabited

/-- The two durations a Delay may name (41 R90). -/
inductive DelayKind where
  | pace
  | retry
  deriving DecidableEq, Repr, Inhabited

/-- One constructor per row of the opcode table. A HOSTBUS row keeps every bit of its word that the row leaves free
(30 R61), a STATE row that ignores or ranges over OP keeps OP (30 R71), and an INTERNAL row keeps the operands its rule
names (log 13). -/
inductive Instr where
  -- format STATE: the selector {OP, STATE} (30 R71)
  | stepInit
  | stepSyncpbProbe
  | stepSyncpbDelay
  | stepSyncedpb
  | stepSynclcdProbe
  | stepSynclcdTail
  | stepSyncedlcd
  | stepIdle
  | stepRequestlcd
  | stepAwaitinglcd
  | stepLcdreceived
  | stepRequestpbXfer
  | stepRequestpbDelay
  | stepAwaitingpb
  | stepPbreceived
  | stepHalt (op : BitVec 3)
  | stepHaltD (op : BitVec 3)
  | stepHaltEF (op : BitVec 3) (low : BitVec 1)
  | stepHoldPair (op : BitVec 3) (st : BitVec 4)
  -- format HOSTBUS: {WE, ADDR, DATA} (30 R61, R62)
  | rdCtrl (data : Byte)
  | rdCmd (data : Byte)
  | rdStatus (data : Byte)
  | rdErrLcd (data : Byte)
  | rdErrPb (data : Byte)
  | rdFaultCause (data : Byte)
  | rdReserved67 (addr : BitVec 1) (data : Byte)
  | rdReserved8F (addr : BitVec 3) (data : Byte)
  | wrCtrl (data : Byte)
  | wrCmdSrst (high : BitVec 7)
  | wrCmdNop (high : BitVec 7)
  | wrRo23 (addr : BitVec 1) (data : Byte)
  | wrRo45 (addr : BitVec 1) (data : Byte)
  | wrReserved67 (addr : BitVec 1) (data : Byte)
  | wrReserved8F (addr : BitVec 3) (data : Byte)
  -- format EVENT (30 R69)
  | evPor
  | evSrst
  | evDoneLcd
  | evDonePb
  -- format INTERNAL (30 R71)
  | checksum (ch : Port) (buf : Buf)
  | valid (ch : Port) (buf : Buf)
  | copy (src dst : Buf)
  | probe (port : Port)
  | burstSync
  | burstStart
  | pacedByte (index : Byte)
  | delay (kind : DelayKind)
  | hookApply (dir : Dir)
  | debugHook
  | pbLand (slot : Byte)
  deriving DecidableEq, Repr

end Sys2Proof
end

