-- ==== Sys2Proof/Config.lean ====
section
/-! DEFINITION. What is fixed for one block: the parameters of 00_scope.md section 3, the check that refuses a
configuration outside their ranges, and the opaque constants that stand for what the spec leaves open. -/

namespace Sys2Proof

/-- The opaque input RULESET (00 R14); the block never looks inside, so a ruleset is a bare name (log 37). -/
structure Ruleset where
  name : Nat
  deriving DecidableEq, Repr, Inhabited

/-- SYNC_TAIL_TX (00 R12). -/
inductive SyncTail where
  | txTail
  | zeros
  deriving DecidableEq, Repr, Inhabited

/-- PB_RX_RACE (00 R13). -/
inductive RaceMode where
  | exact
  | anyPending
  deriving DecidableEq, Repr, Inhabited

/-- Status of a port transaction (41 R80). -/
inductive Status where
  | ok
  | fail
  deriving DecidableEq, Repr, Inhabited

/-- What one item of the LCD's stream does to a synchronous transaction (41 R80, R82): a byte is clocked, the transaction
fails, or the LCD does not clock at this attempt. -/
inductive Wire where
  | byte (b : Byte)
  | fail
  | quiet
  deriving DecidableEq, Repr, Inhabited

/-- What the LCD does with a synchronous transaction that its scripted stream does not settle (41 R82). -/
inductive LcdFate where
  | quiet
  | fail
  | ok
  deriving DecidableEq, Repr, Inhabited

/-- What the PB answers to a one-byte transaction; it never holds (41 R83). -/
inductive PbReply where
  | byte (b : Byte)
  | fail
  deriving DecidableEq, Repr, Inhabited

/-- The two forms of an LCD completion (41 R88). -/
inductive Completion where
  | done (rx : List Byte)
  | spurious
  deriving DecidableEq, Repr, Inhabited

/-- One step of one agent (00 R15): a controller micro-step, the PB port landing the slot it chose, a host access word,
an input event (30 R69), or a RULESET change (44 R123). -/
inductive Move where
  | controller
  | pbPort (slot : Byte)
  | host (w : BitVec 13)
  | event (code : BitVec 2)
  | setRuleset (r : Ruleset)
  deriving DecidableEq, Repr, Inhabited

/-- What the inbox may hold: an agent's move, or a datapath row run on its own by a test bench, which the block's
interfaces do not offer and the free schedule never chooses (log 16). -/
inductive Stimulus where
  | move (m : Move)
  | datapath (w : BitVec 12)
  deriving DecidableEq, Repr, Inhabited

/-- The parameters of 00_scope.md section 3 as plain data. `block` tells one block from another, so that two blocks may
have different functions (00 R16). CHK and HOOK are given as the finite list of values the configuration states over an
uninterpreted function (log 9); durations are in microseconds (log 11). -/
structure RawParams where
  block : Nat
  /-- FRAME_N (R5) -/
  n : Nat
  /-- MARKER_LCD, MARKER_PB (R6) -/
  markerLcd : Byte
  markerPb : Byte
  /-- stated values of CHK_LCD and CHK_PB (R7) -/
  chkKnown : List ((Port × List Byte) × Byte)
  /-- the four templates (R8) -/
  tplLcdTx : List Byte
  tplLcdRx : List Byte
  tplPbTx : List Byte
  tplPbRx : List Byte
  /-- PACE_DELAY (R9) -/
  paceDelay : Nat
  /-- PB_SYNC_RETRY_DELAY (R11) -/
  retryDelay : Nat
  /-- PB_SYNC_MAX_ATTEMPTS, written K (R10) -/
  maxAttempts : Nat
  /-- SYNC_TAIL_TX (R12) -/
  syncTail : SyncTail
  /-- PB_RX_RACE (R13) -/
  race : RaceMode
  /-- stated values of HOOK (R17) -/
  hookKnown : List ((Dir × Ruleset × List Byte) × List Byte)
  /-- DBG_BTN_IDX (R18) -/
  dbgBtnIdx : Nat
  /-- DBG_MAP, a partial map from button code to byte index (R18) -/
  dbgMap : List (Byte × Nat)
  deriving DecidableEq, Repr

/-- `2 <= N <= 255` (00 R5). -/
def RawParams.sizeOk (p : RawParams) : Bool := decide (2 ≤ p.n) && decide (p.n ≤ 255)

/-- `MARKER_LCD != MARKER_PB` (00 R6). -/
def RawParams.markersOk (p : RawParams) : Bool := p.markerLcd != p.markerPb

/-- Each template has `N` bytes (00 R8). -/
def RawParams.templatesOk (p : RawParams) : Bool :=
  (p.tplLcdTx.length == p.n) && (p.tplLcdRx.length == p.n) && (p.tplPbTx.length == p.n) && (p.tplPbRx.length == p.n)

/-- `1 <= K <= 255` (00 R10). -/
def RawParams.attemptsOk (p : RawParams) : Bool := decide (1 ≤ p.maxAttempts) && decide (p.maxAttempts ≤ 255)

/-- HOOK's results have `N` bytes (00 R17, 93 item 24). -/
def RawParams.hookOk (p : RawParams) : Bool := p.hookKnown.all fun e => e.2.length == p.n

/-- DBG_BTN_IDX lies in `1..N-2`; with `N = 2` there is no such index and no debug hook (00 R5, R18; log 24). -/
def RawParams.buttonOk (p : RawParams) : Bool :=
  (p.n == 2) || (decide (1 ≤ p.dbgBtnIdx) && decide (p.dbgBtnIdx + 2 ≤ p.n))

/-- Every index DBG_MAP gives lies in `1..N-2` (00 R18). -/
def RawParams.mapOk (p : RawParams) : Bool := p.dbgMap.all fun e => decide (1 ≤ e.2) && decide (e.2 + 2 ≤ p.n)

/-- The configurations the spec admits; every other one is refused (93 items 2, 4, 16, 24). -/
def RawParams.legal (p : RawParams) : Bool :=
  p.sizeOk && p.markersOk && p.templatesOk && p.attemptsOk && p.hookOk && p.buttonOk && p.mapOk

/-- A configuration together with the check that admits it: a refused configuration cannot be built, so no run starts
with one (93 "refuse", 70 R140; log 7). -/
structure Params extends RawParams where
  ok : toRawParams.legal = true
  deriving DecidableEq, Repr

/-! The free values: opaque constants without a body, so that no proof sees a value. `block` is the block's number and
`k` the counter `env.draws`. -/

/-- CHK_LCD and CHK_PB off the stated values (00 R7). -/
opaque Config.openChk : (block : Nat) → Port → List Byte → Byte
/-- Byte `i` of HOOK's result off the stated values (00 R17). -/
opaque Config.openHook : (block : Nat) → Dir → Ruleset → List Byte → (i : Nat) → Byte
/-- MARKER_LCD of the reset configuration (00 R6). -/
opaque Config.openMarkerLcd : Byte
/-- How far MARKER_PB lies above MARKER_LCD, less one, in the reset configuration (00 R6). -/
opaque Config.openMarkerGap : Fin 255
/-- Byte `i` of each template of the reset configuration (00 R8). -/
opaque Config.openTemplate : Buf → (i : Nat) → Byte
/-- DBG_BTN_IDX less one, of the reset configuration (00 R18). -/
opaque Config.openBtnIdx : Fin 9
/-- DBG_MAP, its indexes less one, of the reset configuration (00 R18). -/
opaque Config.openDbgMap : Byte → Option (Fin 9)
/-- The RULESET input before the host changes it (00 R14). -/
opaque Config.openRuleset : Ruleset
/-- The agent that moves when the inbox is empty (00 R15; log 2). -/
opaque Config.freeMove : (block k : Nat) → Move
/-- What the LCD does past its scripted stream (41 R82; log 3). -/
opaque Config.freeLcd : (block k : Nat) → LcdFate
/-- Byte `i` that a transaction receives past the scripted bytes (41 R80; log 3). -/
opaque Config.freeByte : (block k i : Nat) → Byte
/-- What the PB answers past its scripted stream (41 R83; log 4). -/
opaque Config.freePb : (block k : Nat) → PbReply
/-- The status of a burst start past the scripted ones (41 R87; log 5). -/
opaque Config.freeStart : (block k : Nat) → Status
/-- The form and bytes of a completion past the scripted ones (41 R88; log 6). -/
opaque Config.freeDone : (block k : Nat) → Completion

/-- The indexes of the reset configuration's DBG_MAP, as a list over the 256 codes. -/
def Config.resetDbgMap : List (Byte × Nat) :=
  (List.range 256).filterMap fun c =>
    (Config.openDbgMap (BitVec.ofNat 8 c)).map fun j => (BitVec.ofNat 8 c, j.val + 1)

/-- The configuration of `State.reset`: every default of 00_scope.md section 3, and the opaque constants where the spec
gives none (92 "OPEN parameters"; log 8, 30). -/
def Config.resetRaw : RawParams where
  block := 0
  n := 11
  markerLcd := Config.openMarkerLcd
  markerPb := Config.openMarkerLcd + BitVec.ofNat 8 (Config.openMarkerGap.val + 1)
  chkKnown := []
  tplLcdTx := (List.range 11).map (Config.openTemplate .lcdTx)
  tplLcdRx := (List.range 11).map (Config.openTemplate .lcdRx)
  tplPbTx := (List.range 11).map (Config.openTemplate .pbTx)
  tplPbRx := (List.range 11).map (Config.openTemplate .pbRx)
  paceDelay := 1000
  retryDelay := 1000
  maxAttempts := 100
  syncTail := .txTail
  race := .anyPending
  hookKnown := []
  dbgBtnIdx := Config.openBtnIdx.val + 1
  dbgMap := Config.resetDbgMap

theorem Config.marker_gap_ne (m : Byte) (g : Fin 255) : m ≠ m + BitVec.ofNat 8 (g.val + 1) := by
  intro h
  have h2 := congrArg BitVec.toNat h
  have := g.isLt
  have := m.isLt
  simp only [BitVec.toNat_add, BitVec.toNat_ofNat] at h2
  omega

theorem Config.resetDbgMap_range :
    Config.resetDbgMap.all (fun e => decide (1 ≤ e.2) && decide (e.2 + 2 ≤ 11)) = true := by
  simp only [List.all_eq_true, Config.resetDbgMap, List.mem_filterMap, List.mem_range]
  rintro ⟨c, j⟩ ⟨k, -, h⟩
  simp only [Option.map_eq_some_iff, Prod.mk.injEq] at h
  obtain ⟨i, -, -, rfl⟩ := h
  have := i.isLt
  simp only [Bool.and_eq_true, decide_eq_true_eq]
  omega

theorem Config.resetRaw_legal : Config.resetRaw.legal = true := by
  have hm : Config.resetRaw.markersOk = true := by
    simpa [RawParams.markersOk, Config.resetRaw] using
      Config.marker_gap_ne Config.openMarkerLcd Config.openMarkerGap
  have ht : Config.resetRaw.templatesOk = true := by simp [RawParams.templatesOk, Config.resetRaw]
  have hb : Config.resetRaw.buttonOk = true := by
    have := Config.openBtnIdx.isLt
    simp [RawParams.buttonOk, Config.resetRaw]
    omega
  have hd : Config.resetRaw.mapOk = true := Config.resetDbgMap_range
  have hs : Config.resetRaw.sizeOk = true := by decide
  have ha : Config.resetRaw.attemptsOk = true := by decide
  have hh : Config.resetRaw.hookOk = true := by decide
  simp [RawParams.legal, hm, ht, hb, hd, hs, ha, hh]

/-- The parameters `State.reset` carries. -/
def Config.resetParams : Params where
  toRawParams := Config.resetRaw
  ok := Config.resetRaw_legal

end Sys2Proof
end

