-- ==== Sys2Proof/Machine/Codes.lean ====
section
/-! DEFINITION. The numeric codes of 30_encoding.md: STATE (R58), OP (R71), ports and transaction kinds (R67, R70), and
the allowed (STATE, OP) pairs of 43 R99. -/

namespace Sys2Proof.Machine

/-! STATE codes (30 R58). -/
abbrev St.init : BitVec 4 := 0x0#4
abbrev St.syncingPb : BitVec 4 := 0x1#4
abbrev St.syncedPb : BitVec 4 := 0x2#4
abbrev St.syncingLcd : BitVec 4 := 0x3#4
abbrev St.syncedLcd : BitVec 4 := 0x4#4
abbrev St.idle : BitVec 4 := 0x5#4
abbrev St.requestLcd : BitVec 4 := 0x6#4
abbrev St.awaitingLcd : BitVec 4 := 0x7#4
abbrev St.lcdReceived : BitVec 4 := 0x8#4
abbrev St.requestPb : BitVec 4 := 0x9#4
abbrev St.awaitingPb : BitVec 4 := 0xA#4
abbrev St.pbReceived : BitVec 4 := 0xB#4
abbrev St.halt : BitVec 4 := 0xC#4
abbrev St.haltD : BitVec 4 := 0xD#4

/-! OP codes (30 R71); 7 is unused. -/
abbrev Op.none : BitVec 3 := 0#3
abbrev Op.syncpbProbe : BitVec 3 := 1#3
abbrev Op.syncpbDelay : BitVec 3 := 2#3
abbrev Op.synclcdProbe : BitVec 3 := 3#3
abbrev Op.synclcdTail : BitVec 3 := 4#3
abbrev Op.pacedXfer : BitVec 3 := 5#3
abbrev Op.pacedDelay : BitVec 3 := 6#3

/-- The halt codes 0xC to 0xF, `STATE >= 0xC` (30 R59). -/
def isHalt (st : BitVec 4) : Bool := decide (12 ≤ st.toNat)

/-- The allowed pairs of 43 R99: SyncingPB, SyncingLCD and RequestPB with their own two phases, every other code
0x0 to 0xB with NONE. -/
def allowedPair (st : BitVec 4) (op : BitVec 3) : Bool :=
  if isHalt st then false
  else if st = St.syncingPb then op == Op.syncpbProbe || op == Op.syncpbDelay
  else if st = St.syncingLcd then op == Op.synclcdProbe || op == Op.synclcdTail
  else if st = St.requestPb then op == Op.pacedXfer || op == Op.pacedDelay
  else op == Op.none

/-- The port nibble of FAULT_CAUSE (30 R67). -/
def portCode : Port → BitVec 4
  | .lcd => 1#4
  | .pb => 2#4

end Sys2Proof.Machine
end

