-- ==== Sys2Proof/WellFormed.lean ====
section
/-! DEFINITION. Which instructions stand for a row's word. Every operand's width is in its type, so the one check is on
STEP_HOLD_PAIR: it stands for the selectors that no other STATE row takes (30 R71, 43 R99). The checks on a
configuration are `RawParams.legal`'s, in Config.lean. -/

namespace Sys2Proof

/-- STEP_HOLD_PAIR ranges over `STATE <= 0xB` with a pair that is not allowed (43 R99); every other operand is free. -/
def Instr.wf : Instr → Bool
  | .stepHoldPair op st => !Machine.isHalt st && !Machine.allowedPair st op
  | _ => true

end Sys2Proof
end

