-- ==== Sys2Proof/Decode.lean ====
section
/-! DEFINITION. Decoding and encoding (30_encoding.md section 5). A STATE selector, a host word and an event code each
decode to exactly one row (R71); a datapath word is refused by name where it names no row. The encoder is written from
the same tables. -/

namespace Sys2Proof

open Machine

/-- The four formats of the opcode table (30 R71). -/
inductive Format where
  | state
  | hostbus
  | event
  | internal
  deriving DecidableEq, Repr

/-- A code word: its format, which is the interface it arrives on, and its bits. The 12-bit width of an INTERNAL word is
the model's: the uop in bits 3:0 as the table has it, the operands above it (log 13). -/
inductive CodeWord where
  | state (w : BitVec 7)
  | hostbus (w : BitVec 13)
  | event (w : BitVec 2)
  | internal (w : BitVec 12)
  deriving DecidableEq, Repr

/-- Why a word is no instruction. -/
inductive DecodeError where
  /-- bits above the format's width are set -/
  | tooWide
  /-- an INTERNAL word whose uop names no row -/
  | undefinedUop (uop : BitVec 4)
  /-- an INTERNAL word with an operand bit its row does not have -/
  | strayOperand (uop : BitVec 4)
  deriving DecidableEq, Repr

/-- The row a selector {OP, STATE} selects (30 R58, R71): the halt rows ignore OP, an allowed pair selects its step, every
other pair STEP_HOLD_PAIR. -/
def decodeStep (op : BitVec 3) (st : BitVec 4) : Instr :=
  if st = St.halt then .stepHalt op
  else if st = St.haltD then .stepHaltD op
  else if st.extractLsb' 1 3 = 7#3 then .stepHaltEF op (st.extractLsb' 0 1)
  else if st = St.init ∧ op = Op.none then .stepInit
  else if st = St.syncingPb ∧ op = Op.syncpbProbe then .stepSyncpbProbe
  else if st = St.syncingPb ∧ op = Op.syncpbDelay then .stepSyncpbDelay
  else if st = St.syncedPb ∧ op = Op.none then .stepSyncedpb
  else if st = St.syncingLcd ∧ op = Op.synclcdProbe then .stepSynclcdProbe
  else if st = St.syncingLcd ∧ op = Op.synclcdTail then .stepSynclcdTail
  else if st = St.syncedLcd ∧ op = Op.none then .stepSyncedlcd
  else if st = St.idle ∧ op = Op.none then .stepIdle
  else if st = St.requestLcd ∧ op = Op.none then .stepRequestlcd
  else if st = St.awaitingLcd ∧ op = Op.none then .stepAwaitinglcd
  else if st = St.lcdReceived ∧ op = Op.none then .stepLcdreceived
  else if st = St.requestPb ∧ op = Op.pacedXfer then .stepRequestpbXfer
  else if st = St.requestPb ∧ op = Op.pacedDelay then .stepRequestpbDelay
  else if st = St.awaitingPb ∧ op = Op.none then .stepAwaitingpb
  else if st = St.pbReceived ∧ op = Op.none then .stepPbreceived
  else .stepHoldPair op st

/-- The row a host read of `addr` is (30 R62, 44 R117). -/
def decodeRead (addr : BitVec 4) (data : Byte) : Instr :=
  if addr = 0x0#4 then .rdCtrl data
  else if addr = 0x1#4 then .rdCmd data
  else if addr = 0x2#4 then .rdStatus data
  else if addr = 0x3#4 then .rdErrLcd data
  else if addr = 0x4#4 then .rdErrPb data
  else if addr = 0x5#4 then .rdFaultCause data
  else if addr.extractLsb' 1 3 = 3#3 then .rdReserved67 (addr.extractLsb' 0 1) data
  else .rdReserved8F (addr.extractLsb' 0 3) data

/-- The row a host write to `addr` is (30 R62, 44 R118 to R121); a CMD write divides on DATA[0]. -/
def decodeWrite (addr : BitVec 4) (data : Byte) : Instr :=
  if addr = 0x0#4 then .wrCtrl data
  else if addr = 0x1#4 then
    if data.extractLsb' 0 1 = 1#1 then .wrCmdSrst (data.extractLsb' 1 7) else .wrCmdNop (data.extractLsb' 1 7)
  else if addr.extractLsb' 1 3 = 1#3 then .wrRo23 (addr.extractLsb' 0 1) data
  else if addr.extractLsb' 1 3 = 2#3 then .wrRo45 (addr.extractLsb' 0 1) data
  else if addr.extractLsb' 1 3 = 3#3 then .wrReserved67 (addr.extractLsb' 0 1) data
  else .wrReserved8F (addr.extractLsb' 0 3) data

/-- A selector `{OP[6:4], STATE[3:0]}` (30 R71). -/
def decodeState (w : BitVec 7) : Instr := decodeStep (w.extractLsb' 4 3) (w.extractLsb' 0 4)

/-- A host word `{WE[12], ADDR[11:8], DATA[7:0]}` (30 R61). -/
def decodeHost (w : BitVec 13) : Instr :=
  if w.extractLsb' 12 1 = 1#1 then decodeWrite (w.extractLsb' 8 4) (w.extractLsb' 0 8)
  else decodeRead (w.extractLsb' 8 4) (w.extractLsb' 0 8)

/-- An event code (30 R69). -/
def decodeEvent (w : BitVec 2) : Instr :=
  if w = 0b00#2 then .evPor
  else if w = 0b01#2 then .evSrst
  else if w = 0b10#2 then .evDoneLcd
  else .evDonePb

/-- One bit read as a port or channel: 0 the LCD, 1 the PB (log 13). -/
def decodePort (b : BitVec 1) : Port := if b = 0#1 then .lcd else .pb

/-- Two bits read as a buffer, in address order (log 13). -/
def decodeBuf (b : BitVec 2) : Buf :=
  if b = 0#2 then .lcdTx else if b = 1#2 then .lcdRx else if b = 2#2 then .pbTx else .pbRx

/-- An instruction whose operand bits above `used` are clear. -/
def withOperand (uop : BitVec 4) (arg : Byte) (used : Nat) (i : Instr) : Except DecodeError Instr :=
  if arg.toNat < 2 ^ used then .ok i else .error (.strayOperand uop)

/-- An INTERNAL word: the uop of the table (30 R71) and the operands (log 13). -/
def decodeInternal (w : BitVec 12) : Except DecodeError Instr :=
  let uop : BitVec 4 := w.extractLsb' 0 4
  let arg : Byte := w.extractLsb' 4 8
  if uop = 1#4 then withOperand uop arg 3 (.checksum (decodePort (arg.extractLsb' 0 1)) (decodeBuf (arg.extractLsb' 1 2)))
  else if uop = 2#4 then withOperand uop arg 3 (.valid (decodePort (arg.extractLsb' 0 1)) (decodeBuf (arg.extractLsb' 1 2)))
  else if uop = 3#4 then withOperand uop arg 4 (.copy (decodeBuf (arg.extractLsb' 0 2)) (decodeBuf (arg.extractLsb' 2 2)))
  else if uop = 4#4 then withOperand uop arg 1 (.probe (decodePort (arg.extractLsb' 0 1)))
  else if uop = 5#4 then withOperand uop arg 0 .burstSync
  else if uop = 6#4 then withOperand uop arg 0 .burstStart
  else if uop = 7#4 then .ok (.pacedByte arg)
  else if uop = 8#4 then withOperand uop arg 1 (.delay (if arg.extractLsb' 0 1 = 0#1 then .pace else .retry))
  else if uop = 9#4 then withOperand uop arg 1 (.hookApply (if arg.extractLsb' 0 1 = 0#1 then .lcd2pb else .pb2lcd))
  else if uop = 10#4 then withOperand uop arg 0 .debugHook
  else if uop = 11#4 then .ok (.pbLand arg)
  else .error (.undefinedUop uop)

/-- Any code word. -/
def decode : CodeWord → Except DecodeError Instr
  | .state w => .ok (decodeState w)
  | .hostbus w => .ok (decodeHost w)
  | .event w => .ok (decodeEvent w)
  | .internal w => decodeInternal w

/-- Bits read as a word of a format; bits above its width are refused (30 R73: each format has one width). -/
def wordOfBits (f : Format) (bits : Nat) : Except DecodeError CodeWord :=
  match f with
  | .state => if bits < 2 ^ 7 then .ok (.state (BitVec.ofNat 7 bits)) else .error .tooWide
  | .hostbus => if bits < 2 ^ 13 then .ok (.hostbus (BitVec.ofNat 13 bits)) else .error .tooWide
  | .event => if bits < 2 ^ 2 then .ok (.event (BitVec.ofNat 2 bits)) else .error .tooWide
  | .internal => if bits < 2 ^ 12 then .ok (.internal (BitVec.ofNat 12 bits)) else .error .tooWide

/-- Decoding of any number of any format: total, and refused by name. -/
def decodeBits (f : Format) (bits : Nat) : Except DecodeError Instr :=
  match wordOfBits f bits with
  | .ok w => decode w
  | .error e => .error e

/-- The format a bare word of `nbits` bits is taken to have: the widest whose width fits. A bare word does not say its
interface, and the formats share code values, so this is a choice (log 14). -/
def formatOfWidth (nbits : Nat) : Format :=
  if nbits < 4 then .event else if nbits < 7 then .internal else if nbits < 13 then .state else .hostbus

/-- The instruction read from a bare word of the opcode table (log 14). -/
def decodeTableWord (nbits w : Nat) : Option Instr :=
  match decodeBits (formatOfWidth nbits) w with
  | .ok i => some i
  | .error _ => none

/-! The encoder. -/

/-- `{OP, STATE}` (30 R71). -/
def selector (op : BitVec 3) (st : BitVec 4) : BitVec 7 := op ++ st

/-- `{WE, ADDR, DATA}` (30 R61). -/
def hostWord (we : BitVec 1) (addr : BitVec 4) (data : Byte) : BitVec 13 := we ++ addr ++ data

/-- `{operands, uop}` (log 13). -/
def internalWord (uop : BitVec 4) (arg : Byte) : BitVec 12 := arg ++ uop

def portBit : Port → BitVec 1
  | .lcd => 0#1
  | .pb => 1#1

def bufBits : Buf → BitVec 2
  | .lcdTx => 0#2
  | .lcdRx => 1#2
  | .pbTx => 2#2
  | .pbRx => 3#2

def delayBit : DelayKind → BitVec 1
  | .pace => 0#1
  | .retry => 1#1

def dirBit : Dir → BitVec 1
  | .lcd2pb => 0#1
  | .pb2lcd => 1#1

/-- The word of an instruction, in its row's format. -/
def encode : Instr → CodeWord
  | .stepInit => .state (selector Op.none St.init)
  | .stepSyncpbProbe => .state (selector Op.syncpbProbe St.syncingPb)
  | .stepSyncpbDelay => .state (selector Op.syncpbDelay St.syncingPb)
  | .stepSyncedpb => .state (selector Op.none St.syncedPb)
  | .stepSynclcdProbe => .state (selector Op.synclcdProbe St.syncingLcd)
  | .stepSynclcdTail => .state (selector Op.synclcdTail St.syncingLcd)
  | .stepSyncedlcd => .state (selector Op.none St.syncedLcd)
  | .stepIdle => .state (selector Op.none St.idle)
  | .stepRequestlcd => .state (selector Op.none St.requestLcd)
  | .stepAwaitinglcd => .state (selector Op.none St.awaitingLcd)
  | .stepLcdreceived => .state (selector Op.none St.lcdReceived)
  | .stepRequestpbXfer => .state (selector Op.pacedXfer St.requestPb)
  | .stepRequestpbDelay => .state (selector Op.pacedDelay St.requestPb)
  | .stepAwaitingpb => .state (selector Op.none St.awaitingPb)
  | .stepPbreceived => .state (selector Op.none St.pbReceived)
  | .stepHalt op => .state (selector op St.halt)
  | .stepHaltD op => .state (selector op St.haltD)
  | .stepHaltEF op low => .state (selector op (7#3 ++ low))
  | .stepHoldPair op st => .state (selector op st)
  | .rdCtrl d => .hostbus (hostWord 0#1 0x0#4 d)
  | .rdCmd d => .hostbus (hostWord 0#1 0x1#4 d)
  | .rdStatus d => .hostbus (hostWord 0#1 0x2#4 d)
  | .rdErrLcd d => .hostbus (hostWord 0#1 0x3#4 d)
  | .rdErrPb d => .hostbus (hostWord 0#1 0x4#4 d)
  | .rdFaultCause d => .hostbus (hostWord 0#1 0x5#4 d)
  | .rdReserved67 a d => .hostbus (hostWord 0#1 (3#3 ++ a) d)
  | .rdReserved8F a d => .hostbus (hostWord 0#1 (1#1 ++ a) d)
  | .wrCtrl d => .hostbus (hostWord 1#1 0x0#4 d)
  | .wrCmdSrst h => .hostbus (hostWord 1#1 0x1#4 (h ++ 1#1))
  | .wrCmdNop h => .hostbus (hostWord 1#1 0x1#4 (h ++ 0#1))
  | .wrRo23 a d => .hostbus (hostWord 1#1 (1#3 ++ a) d)
  | .wrRo45 a d => .hostbus (hostWord 1#1 (2#3 ++ a) d)
  | .wrReserved67 a d => .hostbus (hostWord 1#1 (3#3 ++ a) d)
  | .wrReserved8F a d => .hostbus (hostWord 1#1 (1#1 ++ a) d)
  | .evPor => .event 0b00#2
  | .evSrst => .event 0b01#2
  | .evDoneLcd => .event 0b10#2
  | .evDonePb => .event 0b11#2
  | .checksum ch b => .internal (internalWord 1#4 (0#5 ++ bufBits b ++ portBit ch))
  | .valid ch b => .internal (internalWord 2#4 (0#5 ++ bufBits b ++ portBit ch))
  | .copy src dst => .internal (internalWord 3#4 (0#4 ++ bufBits dst ++ bufBits src))
  | .probe p => .internal (internalWord 4#4 (0#7 ++ portBit p))
  | .burstSync => .internal (internalWord 5#4 0#8)
  | .burstStart => .internal (internalWord 6#4 0#8)
  | .pacedByte i => .internal (internalWord 7#4 i)
  | .delay k => .internal (internalWord 8#4 (0#7 ++ delayBit k))
  | .hookApply d => .internal (internalWord 9#4 (0#7 ++ dirBit d))
  | .debugHook => .internal (internalWord 10#4 0#8)
  | .pbLand i => .internal (internalWord 11#4 i)

end Sys2Proof
end

