-- ==== Sys2Proof/Machine/State.lean ====
section
/-! DEFINITION. The machine's state (10_state.md), the events of its trace (10 R37), the reasons a step can stop, and the
state after reset (10 R39, 70 R138). -/

namespace Sys2Proof.Machine

/-- Transaction kinds (30 R70). -/
inductive XferKind where
  | probe
  | burstSync
  | burstStart
  | pacedByte
  deriving DecidableEq, Repr

/-- Where a frame failed validation (10 R37). -/
inductive Phase where
  | sync
  | steady
  deriving DecidableEq, Repr

/-- The events of TRACE (10 R37). A failed transaction's received bytes are discarded, `none` (41 R80); a landing names
the first index and the bytes (41 R88, 20 R51); a delay names its duration (41 R90). -/
inductive Event where
  | xfer (port : Port) (kind : XferKind) (tx : List Byte) (st : Status) (rx : Option (List Byte))
  | land (port : Port) (index : Nat) (bytes : List Byte)
  | done (port : Port) (accepted : Bool)
  | delay (duration : Nat)
  | hook (dir : Dir) (frameIn frameOut : List Byte)
  | chkFail (channel : Port) (phase : Phase)
  | srst
  | fault (code : Byte)
  deriving DecidableEq, Repr

/-- The environment as plain data: which agent moves next, what the two boards answer next, and the counter the free
values past that data are taken at (log 2 to 6). No field is the block's. -/
structure Env where
  inbox : List Stimulus
  lcdStream : List Wire
  pbStream : List PbReply
  starts : List Status
  dones : List Completion
  draws : Nat
  deriving DecidableEq, Repr

/-- The whole machine. -/
structure State where
  /-- the parameters, never written (10 R38) -/
  par : Params
  /-- the input RULESET (00 R14) -/
  ruleset : Ruleset
  /-- STATE, the program counter (R23) -/
  stateReg : BitVec 4
  /-- OP (R24) -/
  op : BitVec 3
  /-- IDX (R25) -/
  idx : Byte
  /-- ATTEMPT (R26) -/
  attempt : Byte
  /-- PB_SYNCED (R27) -/
  pbSynced : Bool
  /-- DEBUG_EN (R28) -/
  debugEn : Bool
  /-- FAULTED and FAULT_CAUSE (R29) -/
  faulted : Bool
  faultCause : Byte
  /-- SRST_PENDING (R30) -/
  srstPending : Bool
  /-- ERR_LCD and ERR_PB (R32) -/
  errLcd : Byte
  errPb : Byte
  /-- buffer memory, the four frame buffers (R33, 20 R40): the bytes that differ from their templates -/
  mem : List Host.Cell
  /-- LCD_BUSY and LCD_INFLIGHT_TX (R34) -/
  lcdBusy : Bool
  lcdInflightTx : List Byte
  /-- PB_PENDING (R35): the slots that hold a byte, by index (log 18) -/
  pbPending : List Host.Cell
  /-- IND_HEART (R36) -/
  indHeart : Bool
  /-- TRACE (R37), oldest first -/
  trace : List Event
  /-- the environment (the model's own) -/
  env : Env
  /-- the byte the last host read returned (the model's own; log 12) -/
  readData : Option Byte
  /-- the byte a datapath row returned when run on its own (the model's own; log 12) -/
  opResult : Option Byte
  deriving DecidableEq, Repr

/-- Why the machine stops with a fault. -/
inductive Fault where
  /-- Raised by the Paced byte (PACED_BYTE, STEP_REQUESTPB_XFER) for an index at or past `N`: PB_TX has no such byte
  (20 R40) and 10 R25 excludes the value. Safe: the machine stops where the spec gives nothing. -/
  | noSuchByte
  deriving DecidableEq, Repr

/-- Why a step has no meaning. -/
inductive Refusal where
  /-- Raised by an arm of `exec` for an instruction that has no meaning yet. Safe. -/
  | notModelled (mnemonic : String)
  /-- Raised by the step for a datapath word that names no row of the opcode table (30 R71). Safe. -/
  | notARow
  deriving DecidableEq, Repr

/-- An environment that has scripted nothing: every choice is free. -/
def Env.free : Env where
  inbox := []
  lcdStream := []
  pbStream := []
  starts := []
  dones := []
  draws := 0

/-- The machine right after POR (10 R39, 70 R138), in the configuration that takes every default (log 30). No byte of
memory is listed, so each buffer reads as its template. -/
def State.reset : State where
  par := Config.resetParams
  ruleset := Config.openRuleset
  stateReg := St.init
  op := Op.none
  idx := 0#8
  attempt := 0#8
  pbSynced := false
  debugEn := false
  faulted := false
  faultCause := 0x00#8
  srstPending := false
  errLcd := 0x00#8
  errPb := 0x00#8
  mem := []
  lcdBusy := false
  lcdInflightTx := List.replicate Config.resetParams.n 0x00#8
  pbPending := []
  indHeart := false
  trace := []
  env := Env.free
  readData := none
  opResult := none

end Sys2Proof.Machine
end

