-- ==== Sys2Proof/Machine/Operands.lean ====
section
/-! DEFINITION. The operand forms of the rules: a byte and a list of bytes of buffer memory (00 R20, 20 R40), the four
buffers, the fields of a frame (30 R57), and the parameter functions CHK, HOOK and DBG_MAP (00 R7, R17, R18). -/

namespace Sys2Proof.Machine

/-! Lists of cells in canonical form, for buffer memory and for the pending slots. -/

/-- The byte listed at an address. -/
def cellsLookup : List Host.Cell → Nat → Option Byte
  | [], _ => none
  | (k, v) :: cs, a => if k = a then some v else cellsLookup cs a

/-- The list with `a` holding `v`, kept in rising order. -/
def cellsInsert (a : Nat) (v : Byte) : List Host.Cell → List Host.Cell
  | [] => [(a, v)]
  | (k, w) :: cs =>
    if a < k then (a, v) :: (k, w) :: cs
    else if a = k then (a, v) :: cs
    else (k, w) :: cellsInsert a v cs

/-- The list with nothing at `a`. -/
def cellsErase (a : Nat) (cs : List Host.Cell) : List Host.Cell := cs.filter fun c => c.1 != a

/-- Addresses strictly rising, each above `lo` where `lo` is given. -/
def cellsRisingFrom : Option Nat → List Host.Cell → Bool
  | _, [] => true
  | none, (k, _) :: cs => cellsRisingFrom (some k) cs
  | some lo, (k, _) :: cs => decide (lo < k) && cellsRisingFrom (some k) cs

/-- Addresses strictly rising. -/
def cellsRising (cs : List Host.Cell) : Bool := cellsRisingFrom none cs

/-! Buffer memory. -/

/-- Buffer memory's size, `4*N` bytes (20 R40). -/
def memSize (p : Params) : Nat := 4 * p.n

/-- BASE of a buffer (20 R40). -/
def Buf.base (p : Params) : Buf → Nat
  | .lcdTx => 0
  | .lcdRx => p.n
  | .pbTx => 2 * p.n
  | .pbRx => 3 * p.n

/-- What an unlisted address reads as: the byte of the template its buffer is seeded with (00 R8, 10 R33; log 34). -/
def background (p : Params) (a : Nat) : Byte :=
  (p.tplLcdTx ++ p.tplLcdRx ++ p.tplPbTx ++ p.tplPbRx).getD a 0x00#8

/-- The canonical form of buffer memory: strictly rising addresses inside the space, no entry equal to what an unlisted
address reads as. -/
def Memory.wf (p : Params) (m : List Host.Cell) : Bool :=
  cellsRising m && m.all fun c => decide (c.1 < memSize p) && (c.2 != background p c.1)

/-- One byte of buffer memory, `MemRead(a, 1)` (00 R20). -/
def State.byteAt (s : State) (a : Nat) : Byte := (cellsLookup s.mem a).getD (background s.par a)

/-- `MemRead(a, n)` (00 R20). -/
def State.memRead (s : State) (a n : Nat) : List Byte := (List.range n).map fun k => s.byteAt (a + k)

/-- The address of byte 0 of a buffer in this block (20 R40). -/
def State.base (s : State) (b : Buf) : Nat := Buf.base s.par b

/-- A whole buffer, `MemRead(BASE(B), N)` (00 R20). -/
def State.readBuf (s : State) (b : Buf) : List Byte := s.memRead (s.base b) s.par.n

/-- `B[i]` (00 R20). -/
def State.bufByte (s : State) (b : Buf) (i : Nat) : Byte := s.byteAt (s.base b + i)

/-- The byte a pending slot holds (10 R35). -/
def State.slot (s : State) (i : Nat) : Option Byte := cellsLookup s.pbPending i

/-! The fields of a frame (30 R57). -/

/-- `chkbyte(f) = f[N-1]`. -/
def chkByte (p : Params) (f : List Byte) : Byte := f.getD (p.n - 1) 0x00#8

/-- `body(f) = f[0..N-2]`, the checksum's input, marker included. -/
def body (p : Params) (f : List Byte) : List Byte := f.take (p.n - 1)

/-! The parameter functions. -/

/-- The first stated value of a key in a list of pairs. -/
def stated {α β : Type} [DecidableEq α] (a : α) : List (α × β) → Option β
  | [] => none
  | (k, v) :: rest => if k = a then some v else stated a rest

/-- CHK_LCD or CHK_PB of a body (00 R7; log 9). -/
def chk (p : Params) (ch : Port) (b : List Byte) : Byte :=
  (stated (ch, b) p.chkKnown).getD (Config.openChk p.block ch b)

/-- HOOK(dir, ruleset, frame), always `N` bytes (00 R17; log 9, 10). -/
def hook (p : Params) (dir : Dir) (r : Ruleset) (f : List Byte) : List Byte :=
  match stated (dir, r, f) p.hookKnown with
  | some g => g
  | none => (List.range p.n).map fun i => Config.openHook p.block dir r f i

/-- DBG_MAP(code) (00 R18). -/
def dbgMap (p : Params) (code : Byte) : Option Nat := stated code p.dbgMap

/-- The marker of frames received from a device (00 R6). -/
def marker (p : Params) : Port → Byte
  | .lcd => p.markerLcd
  | .pb => p.markerPb

/-- The buffer a direction's hook works on (43 R113). -/
def Dir.buffer : Dir → Buf
  | .lcd2pb => .pbTx
  | .pb2lcd => .lcdTx

/-- The duration a Delay names (00 R9, R11). -/
def duration (p : Params) : DelayKind → Nat
  | .pace => p.paceDelay
  | .retry => p.retryDelay

/-- The bytes given, made `n` long: what is missing is free (log 36). -/
def fillBytes (block k n : Nat) (given : List Byte) : List Byte :=
  (List.range n).map fun i => given.getD i (Config.freeByte block k i)

end Sys2Proof.Machine
end

