-- ==== Sys2Proof/Machine/Flags.lean ====
section
/-! DEFINITION. Every flag and status computation: CHECKSUM and VALID (40 R75, R76), HALTED (10 R31), the host registers
(30 R63 to R67), FAULT_CAUSE codes (30 R67), the indicators (60 R131) and the error counters (10 R32). -/

namespace Sys2Proof.Machine

/-- CHECKSUM(ch, f) (40 R75). -/
def checksumOf (p : Params) (ch : Port) (f : List Byte) : Byte := chk p ch (body p f)

/-- VALID(ch, f): the checksum byte equals the checksum; the marker is not compared (40 R76). -/
def validFrame (p : Params) (ch : Port) (f : List Byte) : Bool := chkByte p f == checksumOf p ch f

/-- HALTED, `STATE >= 0xC` (10 R31, 30 R59). -/
def State.halted (s : State) : Bool := isHalt s.stateReg

/-- A flag as one bit. -/
def flagBit (b : Bool) : BitVec 1 := BitVec.ofBool b

/-- CTRL as read, `{0000000, DEBUG_EN}` (30 R63, 44 R117). -/
def State.ctrlReg (s : State) : Byte := 0#7 ++ flagBit s.debugEn

/-- STATUS, `{0, HALTED, FAULTED, PB_SYNCED, STATE[3:0]}` (30 R65, 44 R117). -/
def State.statusReg (s : State) : Byte :=
  0#1 ++ flagBit s.halted ++ flagBit s.faulted ++ flagBit s.pbSynced ++ s.stateReg

/-- The kind nibble of FAULT_CAUSE (30 R70). -/
def XferKind.code : XferKind → BitVec 4
  | .probe => 1#4
  | .burstSync => 2#4
  | .burstStart => 3#4
  | .pacedByte => 4#4

/-- `{PORT[7:4], KIND[3:0]}` (30 R67). -/
def faultCode (p : Port) (k : XferKind) : Byte := portCode p ++ k.code

/-! Indicator outputs (60 R131). -/

def State.indBoot (s : State) : Bool := s.stateReg == St.init || s.halted
def State.indSync (s : State) : Bool := s.stateReg == St.syncingPb || s.stateReg == St.syncingLcd || s.halted
def State.indHeartOut (s : State) : Bool := s.indHeart || s.halted
def State.indFault (s : State) : Bool := s.faulted || s.halted

/-- A one-bit result as a byte. -/
def boolByte (b : Bool) : Byte := if b then 0x01#8 else 0x00#8

end Sys2Proof.Machine
end

