-- ==== Sys2Proof/Machine/Ops.lean ====
section
/-! DEFINITION. The named operations over the state that the meanings share: writes of buffer memory, the trace, the
draws of the environment, port transactions (41 R80 to R83), the entry of a transport fault (60 R126), PB landing
(20 R51), the completion guard (43 R106), the soft reset (70 R139) and the power-on reset (70 R138). -/

namespace Sys2Proof.Machine

/-- `emit e` (00 R20). -/
def State.emit (s : State) (e : Event) : State := { s with trace := s.trace ++ [e] }

/-- Writes STATE, the pc, and OP together (43 R99). -/
def State.goto (s : State) (st : BitVec 4) (op : BitVec 3) : State := { s with stateReg := st, op := op }

/-- The state with other buffer memory. -/
def State.withMem (s : State) (m : List Host.Cell) : State := { s with mem := m }

/-- The state with another environment. -/
def State.withEnv (s : State) (e : Env) : State := { s with env := e }

/-- The state with other pending slots. -/
def State.withPending (s : State) (c : List Host.Cell) : State := { s with pbPending := c }

/-- Buffer memory with one byte written, in canonical form. -/
def memWrite (p : Params) (m : List Host.Cell) (a : Nat) (v : Byte) : List Host.Cell :=
  if v = background p a then cellsErase a m else cellsInsert a v m

/-- `MemWrite(a, 1, [v])` (00 R20). -/
def State.writeByte (s : State) (a : Nat) (v : Byte) : State := s.withMem (memWrite s.par s.mem a v)

/-- `MemWrite(a, len, vs)` (00 R20). -/
def State.writeBytes (s : State) (a : Nat) : List Byte → State
  | [] => s
  | v :: vs => (s.writeByte a v).writeBytes (a + 1) vs

/-- `B <- v` (00 R20). -/
def State.writeBuf (s : State) (b : Buf) (v : List Byte) : State := s.writeBytes (s.base b) v

/-- COPY(src, dst): all `N` bytes, marker and checksum included (40 R78). -/
def State.copyBuf (s : State) (src dst : Buf) : State := s.writeBuf dst (s.readBuf src)

/-- `raise TransportFault(code)`: the sticky flag, the cause and the trace event; STATE, OP, IDX and ATTEMPT keep the
values they have (60 R126). Only POR ends it (60 R128). -/
def raiseTransportFault (code : Byte) (s : State) : State :=
  { s with faulted := true, faultCause := code }.emit (.fault code)

/-- The soft reset as the controller applies it (70 R139). -/
def applySoftReset (s : State) : State :=
  { s with
    stateReg := St.init, op := Op.none, idx := 0#8, attempt := 0#8, pbSynced := false, srstPending := false }.emit .srst

/-- The power-on reset (70 R138): every element of 10_state.md; not the parameters and not RULESET. The two result
fields of the model are cleared too, and the environment is not part of the block (log 20). -/
def powerOn (s : State) : State :=
  { s with
    stateReg := St.init
    op := Op.none
    idx := 0#8
    attempt := 0#8
    pbSynced := false
    debugEn := false
    faulted := false
    faultCause := 0x00#8
    srstPending := false
    errLcd := 0x00#8
    errPb := 0x00#8
    mem := []
    lcdBusy := false
    lcdInflightTx := List.replicate s.par.n 0x00#8
    pbPending := []
    indHeart := false
    trace := []
    readData := none
    opResult := none }

/-! Draws: the scripted answer where there is one, else the free value at the counter, which every draw advances. -/

/-- The environment after a draw. -/
def Env.tick (e : Env) : Env := { e with draws := e.draws + 1 }

/-- What the scripted LCD stream says of `n` bytes: all of them and the rest, a failure, a pause, or too few. -/
inductive Taken where
  | bytes (got : List Byte) (rest : List Wire)
  | fail (rest : List Wire)
  | quiet (rest : List Wire)
  | short (got : List Byte)
  deriving DecidableEq, Repr

/-- One more byte in front of what was taken; a pause gives the byte back to the stream (41 R82: before a transaction
nothing of it has happened). -/
def Taken.cons (b : Byte) : Taken → Taken
  | .bytes got rest => .bytes (b :: got) rest
  | .fail rest => .fail rest
  | .quiet rest => .quiet (.byte b :: rest)
  | .short got => .short (b :: got)

/-- Takes `n` bytes off a stream. -/
def takeWire : Nat → List Wire → Taken
  | 0, ws => .bytes [] ws
  | _ + 1, [] => .short []
  | n + 1, .byte b :: ws => (takeWire n ws).cons b
  | _ + 1, .fail :: ws => .fail ws
  | _ + 1, .quiet :: ws => .quiet ws

/-- The answer of the LCD to a synchronous transaction. -/
inductive LcdAnswer where
  | quiet
  | fail
  | ok (rx : List Byte)
  deriving DecidableEq, Repr

/-- The LCD's answer to a synchronous transaction of `n` bytes, and the environment after it (41 R80, R82; log 3). -/
def lcdDraw (block n : Nat) (e : Env) : LcdAnswer × Env :=
  match takeWire n e.lcdStream with
  | .bytes got rest => (.ok got, { e with lcdStream := rest }.tick)
  | .fail rest => (.fail, { e with lcdStream := rest }.tick)
  | .quiet rest => (.quiet, { e with lcdStream := rest }.tick)
  | .short got =>
    match Config.freeLcd block e.draws with
    | .quiet => (.quiet, e.tick)
    | .fail => (.fail, { e with lcdStream := [] }.tick)
    | .ok => (.ok (fillBytes block e.draws n got), { e with lcdStream := [] }.tick)

/-- The PB's answer to a one-byte transaction (41 R83; log 4). -/
def pbDraw (block : Nat) (e : Env) : PbReply × Env :=
  match e.pbStream with
  | r :: rest => (r, { e with pbStream := rest }.tick)
  | [] => (Config.freePb block e.draws, e.tick)

/-- The status of a burst start (41 R87; log 5). -/
def startDraw (block : Nat) (e : Env) : Status × Env :=
  match e.starts with
  | r :: rest => (r, { e with starts := rest }.tick)
  | [] => (Config.freeStart block e.draws, e.tick)

/-- The form of an LCD completion (41 R88; log 6); END's bytes are made `n` long. -/
def doneDraw (block n : Nat) (e : Env) : Completion × Env :=
  match e.dones with
  | .done rx :: rest => (.done (fillBytes block e.draws n rx), { e with dones := rest }.tick)
  | .spurious :: rest => (.spurious, { e with dones := rest }.tick)
  | [] =>
    match Config.freeDone block e.draws with
    | .done rx => (.done (fillBytes block e.draws n rx), e.tick)
    | .spurious => (.spurious, e.tick)

/-! Port transactions. -/

/-- How an operation that makes one port transaction ends: done with a value, held before anything happened, or failed
with the transport fault entered. -/
inductive Xfer (α : Type) where
  | done (a : α) (s : State)
  | held (s : State)
  | failed (s : State)

/-- The rest of a step after an operation: only a done one runs it (41 R81, 60 R126). -/
def Xfer.andThen {α : Type} (x : Xfer α) (rest : α → State → State) : State :=
  match x with
  | .done a s => rest a s
  | .held s => s
  | .failed s => s

/-- A synchronous LCD transaction: it holds while a burst is in flight or the LCD does not clock (41 R80 to R82). -/
def lcdXfer (kind : XferKind) (tx : List Byte) (s : State) : Xfer (List Byte) :=
  if s.lcdBusy then .held s
  else
    match lcdDraw s.par.block tx.length s.env with
    | (.quiet, e) => .held (s.withEnv e)
    | (.fail, e) =>
      .failed (raiseTransportFault (faultCode .lcd kind) ((s.withEnv e).emit (.xfer .lcd kind tx .fail none)))
    | (.ok rx, e) => .done rx ((s.withEnv e).emit (.xfer .lcd kind tx .ok (some rx)))

/-- A one-byte PB transaction: it never holds (41 R83). -/
def pbXfer (kind : XferKind) (tx : Byte) (s : State) : Xfer Byte :=
  match pbDraw s.par.block s.env with
  | (.fail, e) =>
    .failed (raiseTransportFault (faultCode .pb kind) ((s.withEnv e).emit (.xfer .pb kind [tx] .fail none)))
  | (.byte b, e) => .done b ((s.withEnv e).emit (.xfer .pb kind [tx] .ok (some [b])))

/-! PB receive landing (20 R51). -/

/-- A byte that has waited lands: `MemWrite(BASE(PB_RX)+i, 1, [p]); emit LAND(PB, i, p)`. -/
def landPending (i : Nat) (p : Byte) (s : State) : State :=
  (s.writeByte (s.base .pbRx + i) p).emit (.land .pb i [p])

/-- A PB transaction writes byte `b` for `PB_RX[i]` (20 R51): at once in EXACT; in ANY_PENDING into its slot, an older
byte landing first. -/
def landPb (i : Nat) (b : Byte) (s : State) : State :=
  match s.par.race with
  | .exact => s.writeByte (s.base .pbRx + i) b
  | .anyPending =>
    match s.slot i with
    | some p => (landPending i p s).withPending (cellsInsert i b s.pbPending)
    | none => s.withPending (cellsInsert i b s.pbPending)

/-! The transfer strategies (41_transfer_engine.md section 2). -/

/-- PROBE(port): one byte exchanged, 0x00 sent, the byte received kept at `RX[0]` and returned (41 R85). -/
def probeOp (port : Port) (s : State) : Xfer Byte :=
  match port with
  | .lcd =>
    match lcdXfer .probe [0x00#8] s with
    | .done rx t => .done (rx.getD 0 0x00#8) (t.writeByte (t.base .lcdRx) (rx.getD 0 0x00#8))
    | .held t => .held t
    | .failed t => .failed t
  | .pb =>
    match pbXfer .probe 0x00#8 s with
    | .done b t => .done b (landPb 0 b t)
    | .held t => .held t
    | .failed t => .failed t

/-- The `N-1` bytes the SyncLCD tail sends (00 R12, 41 R86). -/
def syncTailTx (s : State) : List Byte :=
  match s.par.syncTail with
  | .txTail => s.memRead (s.base .lcdTx + 1) (s.par.n - 1)
  | .zeros => List.replicate (s.par.n - 1) 0x00#8

/-- BURST_SYNC(): the `N-1` bytes after a marker, in one call (41 R86). -/
def burstSyncOp (s : State) : Xfer Unit :=
  match lcdXfer .burstSync (syncTailTx s) s with
  | .done rx t => .done () (t.writeBytes (t.base .lcdRx + 1) rx)
  | .held t => .held t
  | .failed t => .failed t

/-- BURST_START(): the start of the asynchronous exchange; its bytes are the snapshot taken here (41 R87). The caller has
seen `LCD_BUSY = 0`. -/
def burstStartOp (s : State) : Xfer Unit :=
  let tx := s.readBuf .lcdTx
  match startDraw s.par.block s.env with
  | (st, e) =>
    let t := (s.withEnv e).emit (.xfer .lcd .burstStart tx st (some []))
    match st with
    | .fail => .failed (raiseTransportFault (faultCode .lcd .burstStart) t)
    | .ok => .done () { t with lcdInflightTx := tx, lcdBusy := true }

/-- One byte of a Paced exchange: `PB_TX[i]` sent, the byte received landed for `PB_RX[i]` (41 R89, 43 R108). -/
def pacedByteOp (i : Nat) (s : State) : Xfer Unit :=
  match pbXfer .pacedByte (s.bufByte .pbTx i) s with
  | .done b t => .done () (landPb i b t)
  | .held t => .held t
  | .failed t => .failed t

/-- Delay(d): a trace event and nothing else (41 R90). -/
def delayOp (k : DelayKind) (s : State) : State := s.emit (.delay (duration s.par k))

/-! The hooks (43_bridge_fsm.md section 4). -/

/-- HOOK_APPLY(dir, B) (43 R113). -/
def hookApplyOp (dir : Dir) (s : State) : State :=
  let v := s.readBuf (Dir.buffer dir)
  let w := hook s.par dir s.ruleset v
  (s.writeBuf (Dir.buffer dir) w).emit (.hook dir v w)

/-- DEBUG_HOOK(f): the byte of LCD_TX that the button code maps to goes up by one (43 R114). -/
def debugHookOp (f : List Byte) (s : State) : State :=
  match dbgMap s.par (f.getD s.par.dbgBtnIdx 0x00#8) with
  | some j => s.writeByte (s.base .lcdTx + j) (s.bufByte .lcdTx j).succ
  | none => s

/-! Completion (41 R88, 43 R106). -/

/-- The completion guard, one compare-and-write (43 R106). -/
def completionGuard (s : State) : State :=
  if s.stateReg = St.awaitingLcd then { s with stateReg := St.lcdReceived }.emit (.done .lcd true)
  else s.emit (.done .lcd false)

/-- The landing of a burst's received bytes at its END (41 R88, 20 R50). -/
def landBurst (rx : List Byte) (s : State) : State :=
  { s.writeBuf .lcdRx rx with lcdBusy := false }.emit (.land .lcd 0 rx)

end Sys2Proof.Machine
end

