-- ==== Sys2Proof/Machine/Bridge.lean ====
section
/-! DEFINITION. The relay controller's step rows (43_bridge_fsm.md). A hold leaves the state as it is (log 1). -/

namespace Sys2Proof.Machine

/-- Init (43 R100). -/
def execStepInit (s : State) : Host.Outcome State Fault Refusal :=
  .next ({ s with attempt := 0#8 }.goto St.syncingPb Op.syncpbProbe)

/-- SyncedPB (43 R101). -/
def execStepSyncedpb (s : State) : Host.Outcome State Fault Refusal :=
  .next (s.goto St.syncingLcd Op.synclcdProbe)

/-- SyncedLCD (43 R102). -/
def execStepSyncedlcd (s : State) : Host.Outcome State Fault Refusal :=
  .next { s with stateReg := St.requestLcd }

/-- Idle (43 R103). -/
def execStepIdle (s : State) : Host.Outcome State Fault Refusal :=
  .next { s with stateReg := St.requestLcd }

/-- RequestLCD: STATE is written before the burst starts (43 R104, 20 R49). -/
def execStepRequestlcd (s : State) : Host.Outcome State Fault Refusal :=
  .next (if s.lcdBusy then s
    else (burstStartOp { s with stateReg := St.awaitingLcd }).andThen fun _ t => t)

/-- AwaitingLCD: the controller has no step (43 R105). -/
def execStepAwaitinglcd (s : State) : Host.Outcome State Fault Refusal :=
  .next s

/-- The valid case of LCDReceived (43 R107): the copy, the Overwrite Hook, then the debug hook on the frame read first. -/
def forwardLcdFrame (f : List Byte) (s : State) : State :=
  let t := hookApplyOp .lcd2pb (s.copyBuf .lcdRx .pbTx)
  if s.debugEn then debugHookOp f t else t

/-- LCDReceived (43 R107). -/
def execStepLcdreceived (s : State) : Host.Outcome State Fault Refusal :=
  let f := s.readBuf .lcdRx
  let t := if validFrame s.par .lcd f then forwardLcdFrame f s
    else { s with errLcd := s.errLcd.succ }.emit (.chkFail .lcd .steady)
  .next ({ t with idx := 0#8 }.goto St.requestPb Op.pacedXfer)

/-- RequestPB / PACED_XFER (43 R108); the byte index lies below `N` (10 R25; log 17). -/
def execStepRequestpbXfer (s : State) : Host.Outcome State Fault Refusal :=
  if s.idx.toNat < s.par.n then
    .next ((pacedByteOp s.idx.toNat s).andThen fun _ t =>
      if s.idx.toNat = s.par.n - 1 then t.goto St.pbReceived Op.none else t.goto t.stateReg Op.pacedDelay)
  else .fault .noSuchByte

/-- RequestPB / PACED_DELAY (43 R109). -/
def execStepRequestpbDelay (s : State) : Host.Outcome State Fault Refusal :=
  .next ({ delayOp .pace s with idx := s.idx.succ }.goto s.stateReg Op.pacedXfer)

/-- AwaitingPB: unused, the controller has no step (43 R110). -/
def execStepAwaitingpb (s : State) : Host.Outcome State Fault Refusal :=
  .next s

/-- PBReceived (43 R111). -/
def execStepPbreceived (s : State) : Host.Outcome State Fault Refusal :=
  let f := s.readBuf .pbRx
  let t := if validFrame s.par .pb f then hookApplyOp .pb2lcd (s.copyBuf .pbRx .lcdTx)
    else { s with errPb := s.errPb.succ }.emit (.chkFail .pb .steady)
  .next { t with indHeart := !s.indHeart, stateReg := St.idle }

/-- Halt, code 0xC: the controller has no step (43 R112). -/
def execStepHalt (_op : BitVec 3) (s : State) : Host.Outcome State Fault Refusal :=
  .next s

/-- The halt step of code 0xD (30 R59, 43 R112). -/
def execStepHaltD (_op : BitVec 3) (s : State) : Host.Outcome State Fault Refusal :=
  .next s

/-- The halt step of codes 0xE and 0xF (30 R59, 43 R112). -/
def execStepHaltEF (_op : BitVec 3) (_low : BitVec 1) (s : State) : Host.Outcome State Fault Refusal :=
  .next s

/-- A pair that is not allowed: the controller holds (43 R99). -/
def execStepHoldPair (_op : BitVec 3) (_st : BitVec 4) (s : State) : Host.Outcome State Fault Refusal :=
  .next s

end Sys2Proof.Machine
end

