-- ==== Sys2Proof/Machine/HostBus.lean ====
section
/-! DEFINITION. The host's register accesses (44_host_interface.md sections 1 and 2). A read changes no state of the
block; the byte it returns is left in `readData`, which no rule reads (log 12). No access faults (30 R68). -/

namespace Sys2Proof.Machine

/-- What a host read answers: the byte, and nothing else (44 R117). -/
def hostReturns (b : Byte) (s : State) : State := { s with readData := some b }

/-- RD CTRL (44 R117). -/
def execRdCtrl (_data : Byte) (s : State) : Host.Outcome State Fault Refusal := .next (hostReturns s.ctrlReg s)

/-- RD CMD, which holds no state (30 R64). -/
def execRdCmd (_data : Byte) (s : State) : Host.Outcome State Fault Refusal := .next (hostReturns 0x00#8 s)

/-- RD STATUS (44 R117). -/
def execRdStatus (_data : Byte) (s : State) : Host.Outcome State Fault Refusal := .next (hostReturns s.statusReg s)

/-- RD ERR_LCD (44 R117). -/
def execRdErrLcd (_data : Byte) (s : State) : Host.Outcome State Fault Refusal := .next (hostReturns s.errLcd s)

/-- RD ERR_PB (44 R117). -/
def execRdErrPb (_data : Byte) (s : State) : Host.Outcome State Fault Refusal := .next (hostReturns s.errPb s)

/-- RD FAULT_CAUSE (44 R117). -/
def execRdFaultCause (_data : Byte) (s : State) : Host.Outcome State Fault Refusal := .next (hostReturns s.faultCause s)

/-- RD of a reserved address, 0x6 or 0x7 (30 R68). -/
def execRdReserved67 (_addr : BitVec 1) (_data : Byte) (s : State) : Host.Outcome State Fault Refusal :=
  .next (hostReturns 0x00#8 s)

/-- RD of a reserved address, 0x8 to 0xF (30 R68). -/
def execRdReserved8F (_addr : BitVec 3) (_data : Byte) (s : State) : Host.Outcome State Fault Refusal :=
  .next (hostReturns 0x00#8 s)

/-- WR CTRL: `DEBUG_EN <- d[0]` (44 R118). -/
def execWrCtrl (data : Byte) (s : State) : Host.Outcome State Fault Refusal :=
  .next { s with debugEn := data.getLsbD 0 }

/-- A soft-reset request, from CMD or from the SRST input (44 R119, 30 R64). -/
def requestSoftReset (s : State) : State := { s with srstPending := true }

/-- WR CMD with DATA[0] = 1 (44 R119). -/
def execWrCmdSrst (_high : BitVec 7) (s : State) : Host.Outcome State Fault Refusal := .next (requestSoftReset s)

/-- WR CMD with DATA[0] = 0 (44 R120). -/
def execWrCmdNop (_high : BitVec 7) (s : State) : Host.Outcome State Fault Refusal := .next s

/-- WR STATUS or ERR_LCD, ignored (44 R121). -/
def execWrRo23 (_addr : BitVec 1) (_data : Byte) (s : State) : Host.Outcome State Fault Refusal := .next s

/-- WR ERR_PB or FAULT_CAUSE, ignored (44 R121). -/
def execWrRo45 (_addr : BitVec 1) (_data : Byte) (s : State) : Host.Outcome State Fault Refusal := .next s

/-- WR of a reserved address, 0x6 or 0x7, ignored (44 R121). -/
def execWrReserved67 (_addr : BitVec 1) (_data : Byte) (s : State) : Host.Outcome State Fault Refusal := .next s

/-- WR of a reserved address, 0x8 to 0xF, ignored (44 R121). -/
def execWrReserved8F (_addr : BitVec 3) (_data : Byte) (s : State) : Host.Outcome State Fault Refusal := .next s

end Sys2Proof.Machine
end

