-- ==== Sys2Proof/Machine/Events.lean ====
section
/-! DEFINITION. The input events (30 R69): power-on reset, soft-reset input, and the two completion signals. -/

namespace Sys2Proof.Machine

/-- POR, from any state (70 R138). -/
def execEvPor (s : State) : Host.Outcome State Fault Refusal := .next (powerOn s)

/-- SRST, the same latch as CMD.SOFT_RESET (44 R119). -/
def execEvSrst (s : State) : Host.Outcome State Fault Refusal := .next (requestSoftReset s)

/-- An LCD completion that is taken (41 R88): END only while a burst is in flight, with its bytes landed before the guard
runs; the SPURIOUS form at any time. The form is the environment's choice (log 6). -/
def takeCompletion (s : State) : State :=
  if s.lcdBusy then
    match doneDraw s.par.block s.par.n s.env with
    | (.done rx, e) => completionGuard (landBurst rx (s.withEnv e))
    | (.spurious, e) => completionGuard (s.withEnv e)
  else completionGuard s

/-- DONE(LCD) (41 R88): discarded while `FAULTED = 1`. -/
def execEvDoneLcd (s : State) : Host.Outcome State Fault Refusal :=
  .next (if s.faulted then s.emit (.done .lcd false) else takeCompletion s)

/-- DONE(PB), accepted with no effect (44 R122). -/
def execEvDonePb (s : State) : Host.Outcome State Fault Refusal := .next (s.emit (.done .pb false))

end Sys2Proof.Machine
end

