-- ==== Sys2Proof/Machine/Hooks.lean ====
section
/-! DEFINITION. The hooks' rows HOOK_APPLY and DEBUG_HOOK (43_bridge_fsm.md section 4). -/

namespace Sys2Proof.Machine

/-- HOOK_APPLY on the buffer of its direction (43 R113). -/
def execHookApply (dir : Dir) (s : State) : Host.Outcome State Fault Refusal :=
  .next (hookApplyOp dir s)

/-- DEBUG_HOOK on the frame in LCD_RX, run when `DEBUG_EN = 1` (43 R114; log 32). -/
def execDebugHook (s : State) : Host.Outcome State Fault Refusal :=
  .next (if s.debugEn then debugHookOp (s.readBuf .lcdRx) s else s)

end Sys2Proof.Machine
end

