-- ==== Sys2Proof/Machine/Packet.lean ====
section
/-! DEFINITION. The packet model's rows CHECKSUM, VALID and COPY (40_packet_model.md). Run on its own, a row that returns
a value leaves it in `opResult`, which no rule reads (log 12); its frame operand is a buffer (log 33). -/

namespace Sys2Proof.Machine

/-- CHECKSUM (40 R75). -/
def execChecksum (ch : Port) (buf : Buf) (s : State) : Host.Outcome State Fault Refusal :=
  .next { s with opResult := some (checksumOf s.par ch (s.readBuf buf)) }

/-- VALID, a one-bit result (40 R76). -/
def execValid (ch : Port) (buf : Buf) (s : State) : Host.Outcome State Fault Refusal :=
  .next { s with opResult := some (boolByte (validFrame s.par ch (s.readBuf buf))) }

/-- COPY (40 R78). -/
def execCopy (src dst : Buf) (s : State) : Host.Outcome State Fault Refusal :=
  .next (s.copyBuf src dst)

end Sys2Proof.Machine
end

