-- ==== Sys2Proof/Machine/Sync.lean ====
section
/-! DEFINITION. The frame synchronizer's step rows (42_frame_sync.md). -/

namespace Sys2Proof.Machine

/-- The SyncPB decision on the byte a probe returned (42 R91). -/
def syncPbDecide (b : Byte) (s : State) : State :=
  let t := { s with attempt := s.attempt.succ }
  if b = s.par.markerPb then { t with pbSynced := true }.goto St.syncedPb Op.none
  else if s.attempt.succ.toNat = s.par.maxAttempts then { t with pbSynced := false }.goto St.syncedPb Op.none
  else t.goto s.stateReg Op.syncpbDelay

/-- SyncingPB / SYNCPB_PROBE (42 R91). -/
def execStepSyncpbProbe (s : State) : Host.Outcome State Fault Refusal :=
  .next ((probeOp .pb s).andThen syncPbDecide)

/-- SyncingPB / SYNCPB_DELAY (42 R92). -/
def execStepSyncpbDelay (s : State) : Host.Outcome State Fault Refusal :=
  .next ((delayOp .retry s).goto s.stateReg Op.syncpbProbe)

/-- SyncingLCD / SYNCLCD_PROBE (42 R94): on a marker the tail is next, else the next step probes again. -/
def execStepSynclcdProbe (s : State) : Host.Outcome State Fault Refusal :=
  .next ((probeOp .lcd s).andThen fun b t =>
    if b = t.par.markerLcd then t.goto t.stateReg Op.synclcdTail else t)

/-- The SyncLCD decision on the frame now in LCD_RX (42 R95). -/
def syncLcdDecide (s : State) : State :=
  if validFrame s.par .lcd (s.readBuf .lcdRx) then s.goto St.syncedLcd Op.none
  else (s.emit (.chkFail .lcd .sync)).goto s.stateReg Op.synclcdProbe

/-- SyncingLCD / SYNCLCD_TAIL (42 R95). -/
def execStepSynclcdTail (s : State) : Host.Outcome State Fault Refusal :=
  .next ((burstSyncOp s).andThen fun _ t => syncLcdDecide t)

end Sys2Proof.Machine
end

