-- ==== Sys2Proof/Machine/Transfer.lean ====
section
/-! DEFINITION. The transfer engine's rows PROBE, BURST_SYNC, BURST_START, PACED_BYTE and DELAY (41_transfer_engine.md)
and the PB port's landing PB_LAND (20 R51). A row that must wait holds: it leaves the block as it was (log 1). -/

namespace Sys2Proof.Machine

/-- PROBE; the byte it returns is left in `opResult` (41 R85). -/
def execProbe (port : Port) (s : State) : Host.Outcome State Fault Refusal :=
  .next ((probeOp port s).andThen fun b t => { t with opResult := some b })

/-- BURST_SYNC (41 R86). -/
def execBurstSync (s : State) : Host.Outcome State Fault Refusal :=
  .next ((burstSyncOp s).andThen fun _ t => t)

/-- BURST_START. Its caller holds while a burst is in flight (41 R87); the row run on its own then waits as its caller does,
DESIGN CHOICE (log 42). -/
def execBurstStart (s : State) : Host.Outcome State Fault Refusal :=
  .next (if s.lcdBusy then s else (burstStartOp s).andThen fun _ t => t)

/-- PACED_BYTE of one index (41 R89); PB_TX has no byte at or past `N` (20 R40; log 17). -/
def execPacedByte (index : Byte) (s : State) : Host.Outcome State Fault Refusal :=
  if index.toNat < s.par.n then .next ((pacedByteOp index.toNat s).andThen fun _ t => t)
  else .fault .noSuchByte

/-- DELAY (41 R90). -/
def execDelay (kind : DelayKind) (s : State) : Host.Outcome State Fault Refusal :=
  .next (delayOp kind s)

/-- PB_LAND of the slot the schedule chose; enabled only in ANY_PENDING and when that slot holds a byte (20 R51, 00 R15),
else it holds. -/
def execPbLand (slot : Byte) (s : State) : Host.Outcome State Fault Refusal :=
  .next (match s.par.race, s.slot slot.toNat with
    | .anyPending, some p => (landPending slot.toNat p s).withPending (cellsErase slot.toNat s.pbPending)
    | _, _ => s)

end Sys2Proof.Machine
end

