-- ==== Sys2Proof/Machine/Dispatch.lean ====
section
/-! DEFINITION. One arm per constructor of Instr, each one direct call of that row's meaning. -/

namespace Sys2Proof.Machine

def exec (i : Instr) (s : State) : Host.Outcome State Fault Refusal :=
  match i with
  | .stepInit => Sys2Proof.Machine.execStepInit s
  | .stepSyncpbProbe => Sys2Proof.Machine.execStepSyncpbProbe s
  | .stepSyncpbDelay => Sys2Proof.Machine.execStepSyncpbDelay s
  | .stepSyncedpb => Sys2Proof.Machine.execStepSyncedpb s
  | .stepSynclcdProbe => Sys2Proof.Machine.execStepSynclcdProbe s
  | .stepSynclcdTail => Sys2Proof.Machine.execStepSynclcdTail s
  | .stepSyncedlcd => Sys2Proof.Machine.execStepSyncedlcd s
  | .stepIdle => Sys2Proof.Machine.execStepIdle s
  | .stepRequestlcd => Sys2Proof.Machine.execStepRequestlcd s
  | .stepAwaitinglcd => Sys2Proof.Machine.execStepAwaitinglcd s
  | .stepLcdreceived => Sys2Proof.Machine.execStepLcdreceived s
  | .stepRequestpbXfer => Sys2Proof.Machine.execStepRequestpbXfer s
  | .stepRequestpbDelay => Sys2Proof.Machine.execStepRequestpbDelay s
  | .stepAwaitingpb => Sys2Proof.Machine.execStepAwaitingpb s
  | .stepPbreceived => Sys2Proof.Machine.execStepPbreceived s
  | .stepHalt op => Sys2Proof.Machine.execStepHalt op s
  | .stepHaltD op => Sys2Proof.Machine.execStepHaltD op s
  | .stepHaltEF op low => Sys2Proof.Machine.execStepHaltEF op low s
  | .stepHoldPair op st => Sys2Proof.Machine.execStepHoldPair op st s
  | .rdCtrl data => Sys2Proof.Machine.execRdCtrl data s
  | .rdCmd data => Sys2Proof.Machine.execRdCmd data s
  | .rdStatus data => Sys2Proof.Machine.execRdStatus data s
  | .rdErrLcd data => Sys2Proof.Machine.execRdErrLcd data s
  | .rdErrPb data => Sys2Proof.Machine.execRdErrPb data s
  | .rdFaultCause data => Sys2Proof.Machine.execRdFaultCause data s
  | .rdReserved67 addr data => Sys2Proof.Machine.execRdReserved67 addr data s
  | .rdReserved8F addr data => Sys2Proof.Machine.execRdReserved8F addr data s
  | .wrCtrl data => Sys2Proof.Machine.execWrCtrl data s
  | .wrCmdSrst high => Sys2Proof.Machine.execWrCmdSrst high s
  | .wrCmdNop high => Sys2Proof.Machine.execWrCmdNop high s
  | .wrRo23 addr data => Sys2Proof.Machine.execWrRo23 addr data s
  | .wrRo45 addr data => Sys2Proof.Machine.execWrRo45 addr data s
  | .wrReserved67 addr data => Sys2Proof.Machine.execWrReserved67 addr data s
  | .wrReserved8F addr data => Sys2Proof.Machine.execWrReserved8F addr data s
  | .evPor => Sys2Proof.Machine.execEvPor s
  | .evSrst => Sys2Proof.Machine.execEvSrst s
  | .evDoneLcd => Sys2Proof.Machine.execEvDoneLcd s
  | .evDonePb => Sys2Proof.Machine.execEvDonePb s
  | .checksum ch buf => Sys2Proof.Machine.execChecksum ch buf s
  | .valid ch buf => Sys2Proof.Machine.execValid ch buf s
  | .copy src dst => Sys2Proof.Machine.execCopy src dst s
  | .probe port => Sys2Proof.Machine.execProbe port s
  | .burstSync => Sys2Proof.Machine.execBurstSync s
  | .burstStart => Sys2Proof.Machine.execBurstStart s
  | .pacedByte index => Sys2Proof.Machine.execPacedByte index s
  | .delay kind => Sys2Proof.Machine.execDelay kind s
  | .hookApply dir => Sys2Proof.Machine.execHookApply dir s
  | .debugHook => Sys2Proof.Machine.execDebugHook s
  | .pbLand slot => Sys2Proof.Machine.execPbLand slot s

end Sys2Proof.Machine
end

