-- ==== Sys2Proof/Machine/Agents.lean ====
section
/-! DEFINITION. What an agent's step does (00 R15): the controller's micro-step around the selected row (43 R98), a host
access, an event, the PB port's landing, a RULESET change; which of them is next; and how one row's word is put where the
next step runs it. -/

namespace Sys2Proof.Machine

/-- The selector {OP, STATE} the controller decodes (30 R71, 43 R98). -/
def State.selector (s : State) : BitVec 7 := Sys2Proof.selector s.op s.stateReg

/-- One controller micro-step (43 R98): a fault holds it, then a pending soft reset is applied, then the selected row
runs; the halt rows and STEP_HOLD_PAIR are rows of their own. -/
def controllerStep (s : State) : Host.Outcome State Fault Refusal :=
  if s.faulted then .next s
  else if s.srstPending then .next (applySoftReset s)
  else exec (decodeState s.selector) s

/-- A datapath row run on its own by a test bench (log 16). It belongs to the controller, so a fault holds it
(60 R126). DESIGN CHOICE (log 41): a soft reset that is pending does not pre-empt the row. The row runs and the request
stays latched for the controller's next micro-step, the one step that 43 R98 and 44 R119 have apply it; the spec is silent
on rows run on their own. -/
def datapathStep (w : BitVec 12) (s : State) : Host.Outcome State Fault Refusal :=
  if s.faulted then .next s
  else
    match decodeInternal w with
    | .ok i => exec i s
    | .error _ => .refused .notARow

/-- One step of one agent. -/
def moveStep (m : Move) (s : State) : Host.Outcome State Fault Refusal :=
  match m with
  | .controller => controllerStep s
  | .pbPort slot => exec (.pbLand slot) s
  | .host w => exec (decodeHost w) s
  | .event c => exec (decodeEvent c) s
  | .setRuleset r => .next { s with ruleset := r }

/-- What comes next: the head of the inbox, else the agent of the free schedule (log 2). -/
def nextStimulus (block : Nat) (e : Env) : Stimulus × Env :=
  match e.inbox with
  | x :: rest => (x, { e with inbox := rest })
  | [] => (.move (Config.freeMove block e.draws), e.tick)

/-- One stimulus carried out. -/
def runStimulus (x : Stimulus) (s : State) : Host.Outcome State Fault Refusal :=
  match x with
  | .move m => moveStep m s
  | .datapath w => datapathStep w s

/-- One step of the machine: one agent's atomic step (00 R15, 20 R48). -/
def machineStep (s : State) : Host.Outcome State Fault Refusal :=
  match nextStimulus s.par.block s.env with
  | (x, e) => runStimulus x (s.withEnv e)

/-- A stimulus put first in the inbox. -/
def State.push (x : Stimulus) (s : State) : State := s.withEnv { s.env with inbox := x :: s.env.inbox }

/-- A code word placed so that the very next step runs its row (log 15): a selector in OP and STATE with nothing that
pre-empts it, a host word or an event at its interface, a datapath word at the test bench. -/
def State.placeWord (w : CodeWord) (s : State) : State :=
  match w with
  | .state w =>
    { s.goto (w.extractLsb' 0 4) (w.extractLsb' 4 3) with faulted := false, srstPending := false }.push
      (.move .controller)
  | .hostbus w => s.push (.move (.host w))
  | .event w => s.push (.move (.event w))
  | .internal w => { s with faulted := false }.push (.datapath w)

/-- The same for a bare word of the opcode table; a word of no format leaves the state (log 14, 15). -/
def State.placeBits (nbits w : Nat) (s : State) : State :=
  match wordOfBits (formatOfWidth nbits) w with
  | .ok c => s.placeWord c
  | .error _ => s

end Sys2Proof.Machine
end

