-- ==== Sys2Proof/Safety.lean ====
section
/-! DEFINITION. The terms claims use: what an instruction may write (frames), the invariant of the states a run can
reach, and when a state is outside the codes a run can reach. -/

namespace Sys2Proof.Machine

/-- The state's elements, by name, for frames. -/
inductive Field where
  | par | ruleset | stateReg | op | idx | attempt | pbSynced | debugEn | faulted | faultCause | srstPending | errLcd
  | errPb | mem | lcdBusy | lcdInflightTx | pbPending | indHeart | trace | env | readData | opResult
  deriving DecidableEq, Repr

/-- The element holds in `t` what it held in `s`; of memory, every byte reads as before. -/
def Field.same (s t : State) : Field → Prop
  | .par => t.par = s.par
  | .ruleset => t.ruleset = s.ruleset
  | .stateReg => t.stateReg = s.stateReg
  | .op => t.op = s.op
  | .idx => t.idx = s.idx
  | .attempt => t.attempt = s.attempt
  | .pbSynced => t.pbSynced = s.pbSynced
  | .debugEn => t.debugEn = s.debugEn
  | .faulted => t.faulted = s.faulted
  | .faultCause => t.faultCause = s.faultCause
  | .srstPending => t.srstPending = s.srstPending
  | .errLcd => t.errLcd = s.errLcd
  | .errPb => t.errPb = s.errPb
  | .mem => ∀ a, t.byteAt a = s.byteAt a
  | .lcdBusy => t.lcdBusy = s.lcdBusy
  | .lcdInflightTx => t.lcdInflightTx = s.lcdInflightTx
  | .pbPending => t.pbPending = s.pbPending
  | .indHeart => t.indHeart = s.indHeart
  | .trace => t.trace = s.trace
  | .env => t.env = s.env
  | .readData => t.readData = s.readData
  | .opResult => t.opResult = s.opResult

/-- Nothing but the named elements changed. -/
def SameBut (written : List Field) (s t : State) : Prop := ∀ f, f ∉ written → Field.same s t f

/-- Every byte outside the `len` bytes from `lo` reads as before. -/
def SameOutside (s t : State) (lo len : Nat) : Prop := ∀ a, ¬ (lo ≤ a ∧ a < lo + len) → t.byteAt a = s.byteAt a

/-- The FAULT_CAUSE codes a fault writes (30 R67). -/
def faultCodes : List Byte := [0x11#8, 0x12#8, 0x13#8, 0x21#8, 0x24#8]

/-- A code no rule of the spec writes to STATE (30 R59, R60): AwaitingPB and the halt codes. -/
def unusedCode (st : BitVec 4) : Bool := st == St.awaitingPb || isHalt st

/-- What holds of every state a run from reset reaches: the ranges of 10_state.md, the allowed pairs of 43 R99, the
canonical form of memory. -/
structure State.Inv (s : State) : Prop where
  /-- memory keeps its canonical form (20 R40) -/
  memory : Memory.wf s.par s.mem = true
  /-- the pending slots are slots `0..N-1`, listed once (10 R35) -/
  pending : cellsRising s.pbPending = true ∧ ∀ c ∈ s.pbPending, c.1 < s.par.n
  /-- with EXACT every slot stays empty (10 R35) -/
  pendingExact : s.par.race = .exact → s.pbPending = []
  /-- LCD_INFLIGHT_TX has `N` bytes (10 R34) -/
  inflight : s.lcdInflightTx.length = s.par.n
  /-- the pair (STATE, OP) is allowed (43 R99) -/
  pair : allowedPair s.stateReg s.op = true
  /-- `IDX <= N-1` (10 R25) -/
  index : s.idx.toNat < s.par.n
  /-- in PACED_DELAY a further byte is to come (43 R109) -/
  indexDelay : s.op = Op.pacedDelay → s.idx.toNat + 1 < s.par.n
  /-- `ATTEMPT <= K` (10 R26) -/
  attempts : s.attempt.toNat ≤ s.par.maxAttempts
  /-- while the scan runs, another probe is allowed (42 R91) -/
  attemptsScan : s.stateReg = St.syncingPb → s.attempt.toNat < s.par.maxAttempts
  /-- FAULT_CAUSE holds a code of 30 R67, and 0x00 exactly while there is no fault -/
  cause : if s.faulted then s.faultCause ∈ faultCodes else s.faultCause = 0x00#8

/-- A step that neither faults nor is refused. -/
def StepSafe (s : State) : Prop := ∃ t, step s = .next t

/-- The transport fault of a code was entered: the flag, the cause, the trace of the failed transaction and of the fault,
and nothing else but what `before` names and the environment (60 R126). -/
def FaultEntered (code : Byte) (failed : Event) (before : List Field) (s t : State) : Prop :=
  t.faulted = true ∧ t.faultCause = code ∧ t.trace = s.trace ++ [failed, .fault code] ∧
    SameBut (before ++ [.faulted, .faultCause, .trace, .env]) s t

/-- A byte received for `PB_RX[i]` (20 R51): with EXACT it is there; with ANY_PENDING it waits in its slot, and a byte
that waited there has landed. No other byte of memory and no other slot changes. -/
def Landed (i : Nat) (b : Byte) (s t : State) : Prop :=
  SameOutside s t (s.base .pbRx + i) 1 ∧ (∀ j, j ≠ i → t.slot j = s.slot j) ∧
    match s.par.race with
    | .exact => t.bufByte .pbRx i = b ∧ t.slot i = s.slot i
    | .anyPending => t.slot i = some b ∧ t.bufByte .pbRx i = (s.slot i).getD (s.bufByte .pbRx i)

/-- The landing that such a byte causes in the trace (20 R51). -/
def landEvents (i : Nat) (s : State) : List Event :=
  match s.par.race, s.slot i with
  | .anyPending, some p => [.land .pb i [p]]
  | _, _ => []

/-- The address the debug hook increments for a frame, if any (43 R114). -/
def debugTarget (s : State) (f : List Byte) : Option Nat :=
  (dbgMap s.par (f.getD s.par.dbgBtnIdx 0x00#8)).map fun j => s.base .lcdTx + j

/-- What the tail of a SyncLCD scan may rely on: no burst is in flight and `LCD_RX[0]` holds the marker the probe
matched (42 R94, R95). -/
def TailReady (s : State) : Prop :=
  s.op = Op.synclcdTail → s.lcdBusy = false ∧ s.bufByte .lcdRx 0 = s.par.markerLcd

/-- The next step is an agent's, not the test bench's (log 16). -/
def AgentNext (s : State) : Prop := ∃ m, (nextStimulus s.par.block s.env).1 = .move m

/-- A port transaction in the trace (10 R37). -/
def Event.isXfer : Event → Bool
  | .xfer _ _ _ _ _ => true
  | _ => false

/-- A delay in the trace. -/
def Event.isDelay : Event → Bool
  | .delay _ => true
  | _ => false

end Sys2Proof.Machine
end

