-- ==== Sys2Proof/Certificates/Slice0/Obligations.lean ====
section
/-! DEFINITION. The statements about the model, for the provers. Each docstring names the rule it formalises. Draws of the
environment appear as the model's own draw functions of the state, so that a statement covers the scripted answer and the
free one alike. -/

open Sys2Proof Sys2Proof.Machine

/-! Encoding. -/

/-- Decoding the encoding of a well-formed instruction gives it back, with every operand (30 section 5). -/
def Obligations.DecodeOfEncodeGivesBack : Prop :=
  ∀ i : Instr, i.wf = true → decode (encode i) = .ok i

/-- A word that decodes is the encoding of what it decodes to, which is well formed: no two words of a format mean the
same, and none means an ill-formed instruction (30 section 5). -/
def Obligations.EncodeOfDecodeGivesBack : Prop :=
  ∀ (w : CodeWord) (i : Instr), decode w = .ok i → i.wf = true ∧ encode i = w

/-- A selector that is no allowed pair selects STEP_HOLD_PAIR and an allowed one does not (30 R71), and the halt codes
select a halt row whatever OP is (30 R59). -/
def Obligations.SelectorsOutsideThePairsHold : Prop :=
  ∀ (op : BitVec 3) (st : BitVec 4),
    (isHalt st = false → allowedPair st op = false → decodeState (selector op st) = .stepHoldPair op st) ∧
    (allowedPair st op = true → decodeState (selector op st) ≠ .stepHoldPair op st) ∧
    (isHalt st = true → decodeState (selector op st) = .stepHalt op ∨ decodeState (selector op st) = .stepHaltD op ∨
      decodeState (selector op st) = .stepHaltEF op (st.extractLsb' 0 1))

/-- A few words written out from the spec decode to their rows. -/
def Obligations.SpecWordsDecode : Prop :=
  decode (.state 0b0010001#7) = .ok .stepSyncpbProbe ∧
  decode (.state 0b1011001#7) = .ok .stepRequestpbXfer ∧
  decode (.state 0b0001011#7) = .ok .stepPbreceived ∧
  decode (.hostbus 0b1000000000001#13) = .ok (.wrCtrl 0x01#8) ∧
  decode (.hostbus 0b1000100000011#13) = .ok (.wrCmdSrst 1#7) ∧
  decode (.hostbus 0b0001000000000#13) = .ok (.rdStatus 0x00#8) ∧
  decode (.event 0b10#2) = .ok .evDoneLcd ∧
  decode (.internal 0b000000001011#12) = .ok (.pbLand 0#8)

/-! The step. -/

/-- A step runs what the head of the inbox names: the row the selector {OP, STATE} decodes to when no fault and no soft
reset is pending (43 R98), a host word's row, an event's row, the PB port's landing, a datapath row. The head is taken off
the inbox first; with an empty inbox the free schedule's agent moves (model's choice, log 2). -/
def Obligations.StepRunsTheDecodedInstruction : Prop :=
  ∀ (s : State) (i : Instr) (rest : List Stimulus),
    let u := s.withEnv { s.env with inbox := rest }
    (s.env.inbox = .move .controller :: rest → s.faulted = false → s.srstPending = false →
      decode (.state s.selector) = .ok i → step s = exec i u) ∧
    (∀ w, s.env.inbox = .move (.host w) :: rest → decode (.hostbus w) = .ok i → step s = exec i u) ∧
    (∀ w, s.env.inbox = .move (.event w) :: rest → decode (.event w) = .ok i → step s = exec i u) ∧
    (∀ k, s.env.inbox = .move (.pbPort k) :: rest → step s = exec (.pbLand k) u) ∧
    (∀ w, s.env.inbox = .datapath w :: rest → s.faulted = false → decode (.internal w) = .ok i → step s = exec i u) ∧
    (s.env.inbox = [] → step s = moveStep (Config.freeMove s.par.block s.env.draws) (s.withEnv s.env.tick))

/-- A word of the opcode table placed by `withFetchWord` is what the very next step runs, on a state that differs from the
given one in the selector and in what would pre-empt it only (model's interface, log 14, 15). -/
def Obligations.PlacedWordRunsNext : Prop :=
  ∀ (s : State) (nbits w : Nat) (i : Instr), decodeTableWord nbits w = some i →
    ∃ t, step (s.withFetchWord nbits w) = exec i t ∧ SameBut [.stateReg, .op, .faulted, .srstPending] s t

/-- The order of tests in a controller micro-step (43 R98): a fault holds the controller, a pending soft reset too; else a
pending soft reset is applied, writes what 70 R139 lists and keeps the rest. -/
def Obligations.SoftResetIsAppliedFirst : Prop :=
  ∀ (s : State) (rest : List Stimulus), s.env.inbox = .move .controller :: rest →
    (s.faulted = true → step s = .next (s.withEnv { s.env with inbox := rest })) ∧
    (s.faulted = false → s.srstPending = true →
      ∃ t, step s = .next t ∧ t.stateReg = St.init ∧ t.op = Op.none ∧ t.idx = 0#8 ∧ t.attempt = 0#8 ∧
        t.pbSynced = false ∧ t.srstPending = false ∧ t.trace = s.trace ++ [.srst] ∧
        t.env = { s.env with inbox := rest } ∧
        SameBut [.stateReg, .op, .idx, .attempt, .pbSynced, .srstPending, .trace, .env] s t)

/-- The controller holds in AwaitingLCD (43 R105), in AwaitingPB (R110), in the halt codes (R112) and in a pair that is not
allowed (R99). The spec says that it then has no step; the model answers a step that changes nothing (model's choice,
log 1), and that is what is stated: the rows leave the state, and so does a micro-step but for its place in the inbox. -/
def Obligations.HoldingRowsKeepEverything : Prop :=
  (∀ s : State, exec .stepAwaitinglcd s = .next s ∧ exec .stepAwaitingpb s = .next s ∧
    (∀ op, exec (.stepHalt op) s = .next s) ∧ (∀ op, exec (.stepHaltD op) s = .next s) ∧
    (∀ op low, exec (.stepHaltEF op low) s = .next s) ∧ (∀ op st, exec (.stepHoldPair op st) s = .next s)) ∧
  ∀ (s : State) (rest : List Stimulus), s.env.inbox = .move .controller :: rest → s.srstPending = false →
    (s.stateReg = St.awaitingLcd ∨ s.stateReg = St.awaitingPb ∨ isHalt s.stateReg = true ∨
      allowedPair s.stateReg s.op = false) →
    step s = .next (s.withEnv { s.env with inbox := rest })

/-- No step writes a parameter, and RULESET changes only by the host's step that replaces it (10 R38). -/
def Obligations.ParametersAreNeverWritten : Prop :=
  ∀ s t : State, step s = .next t → t.par = s.par ∧
    (t.ruleset = s.ruleset ∨ (nextStimulus s.par.block s.env).1 = .move (.setRuleset t.ruleset))

/-- Every step but a power-on reset appends to the trace, at most one port transaction among what it appends (10 R37,
60 R127). -/
def Obligations.StepAppendsAtMostOneTransaction : Prop :=
  ∀ s t : State, step s = .next t →
    (∃ es, t.trace = s.trace ++ es ∧ (es.filter Event.isXfer).length ≤ 1) ∨
    ((nextStimulus s.par.block s.env).1 = .move (.event 0b00#2) ∧ t.trace = [])

/-! Invariants. -/

/-- The state after reset meets the invariant, and the SyncLCD tail's premise. -/
def Obligations.ResetMeetsTheInvariant : Prop := State.reset.Inv ∧ TailReady State.reset

/-- Every step keeps the invariant: the ranges of 10_state.md, the allowed pairs (43 R99), memory's canonical form, the
FAULT_CAUSE codes (30 R67). -/
def Obligations.StepKeepsTheInvariant : Prop :=
  ∀ s t : State, s.Inv → step s = .next t → t.Inv

/-- Under the invariant every agent's step completes; only the model's test bench can be refused, for a datapath word that
names no row (model's stops, log 13, 16, 17). -/
def Obligations.AgentStepsComplete : Prop :=
  (∀ s : State, s.Inv → AgentNext s → StepSafe s) ∧
  ∀ (s : State) (w : BitVec 12) (e : DecodeError) (rest : List Stimulus), s.env.inbox = .datapath w :: rest →
    s.faulted = false → decodeInternal w = .error e → step s = .refused .notARow

/-- No step writes AwaitingPB or a halt code to STATE (30 R59, R60; 43 R116). -/
def Obligations.UnusedCodesAreNeverEntered : Prop :=
  ∀ s t : State, step s = .next t → unusedCode s.stateReg = false → unusedCode t.stateReg = false

/-- A fault stays, with its cause, and no transaction follows it, until a power-on reset (60 R126, R127, R128). -/
def Obligations.OnlyPowerOnLeavesAFault : Prop :=
  ∀ s t : State, s.faulted = true → step s = .next t →
    (t.faulted = true ∧ t.faultCause = s.faultCause ∧
      ∃ es, t.trace = s.trace ++ es ∧ es.filter Event.isXfer = []) ∨
    ((nextStimulus s.par.block s.env).1 = .move (.event 0b00#2) ∧ t.faulted = false ∧ t.faultCause = 0x00#8)

/-- A step leaves an error counter or adds one to it, mod 256; only a power-on reset clears the counters (10 R32). -/
def Obligations.CountersOnlyCountUp : Prop :=
  ∀ s t : State, step s = .next t →
    ((t.errLcd = s.errLcd ∨ t.errLcd.toNat = (s.errLcd.toNat + 1) % 256) ∧
      (t.errPb = s.errPb ∨ t.errPb.toNat = (s.errPb.toNat + 1) % 256)) ∨
    ((nextStimulus s.par.block s.env).1 = .move (.event 0b00#2) ∧ t.errLcd = 0x00#8 ∧ t.errPb = 0x00#8)

/-- Every agent's step keeps the premise of the SyncLCD tail (42 R94, R95; 41 R82), given that RequestLCD is the only
state that starts a burst, which the allowed pairs say. -/
def Obligations.AgentStepsKeepTheTailReady : Prop :=
  ∀ s t : State, AgentNext s → s.Inv → TailReady s → step s = .next t → TailReady t

/-- SyncingLCD is left only with a valid frame that begins with the marker, or for Init by a power-on reset (70 R138) or by
a controller step that applies a pending soft reset (42 R96, 70 R139); a fault stays in it. -/
def Obligations.SyncLcdReturnsOnlyAValidFrame : Prop :=
  ∀ s t : State, AgentNext s → s.Inv → TailReady s → s.stateReg = St.syncingLcd → step s = .next t →
    t.stateReg = St.syncingLcd ∨
    (t.stateReg = St.init ∧
      ((nextStimulus s.par.block s.env).1 = .move (.event 0b00#2) ∨
        ((nextStimulus s.par.block s.env).1 = .move .controller ∧ s.srstPending = true))) ∨
    (t.stateReg = St.syncedLcd ∧ validFrame t.par .lcd (t.readBuf .lcdRx) = true ∧
      t.bufByte .lcdRx 0 = t.par.markerLcd)

/-! Start-up and synchronization rows. -/

/-- Init (43 R100). -/
def Obligations.InitBeginsSynchronization : Prop :=
  ∀ s : State, ∃ t, exec .stepInit s = .next t ∧ t.attempt = 0#8 ∧ t.op = Op.syncpbProbe ∧
    t.stateReg = St.syncingPb ∧ SameBut [.attempt, .op, .stateReg] s t

/-- SyncedPB (43 R101), SyncedLCD (R102) and Idle (R103) go on and write nothing else. -/
def Obligations.PassingStatesGoOn : Prop :=
  ∀ s : State,
    (∃ t, exec .stepSyncedpb s = .next t ∧ t.op = Op.synclcdProbe ∧ t.stateReg = St.syncingLcd ∧
      SameBut [.op, .stateReg] s t) ∧
    (∃ t, exec .stepSyncedlcd s = .next t ∧ t.stateReg = St.requestLcd ∧ SameBut [.stateReg] s t) ∧
    (∃ t, exec .stepIdle s = .next t ∧ t.stateReg = St.requestLcd ∧ SameBut [.stateReg] s t)

/-- One PB probe of the scan (42 R91): a marker ends it synced, the K-th probe without one ends it not synced, any other
byte asks for the delay; a failed transaction enters fault 0x21 and changes nothing else. -/
def Obligations.SyncPbProbeDecides : Prop :=
  ∀ (s : State) (e : Env),
    (∀ b, pbDraw s.par.block s.env = (.byte b, e) →
      ∃ t, exec .stepSyncpbProbe s = .next t ∧ t.attempt = s.attempt + 1#8 ∧
        (if b = s.par.markerPb then t.pbSynced = true ∧ t.op = Op.none ∧ t.stateReg = St.syncedPb
         else if (s.attempt + 1#8).toNat = s.par.maxAttempts then
           t.pbSynced = false ∧ t.op = Op.none ∧ t.stateReg = St.syncedPb
         else t.pbSynced = s.pbSynced ∧ t.op = Op.syncpbDelay ∧ t.stateReg = s.stateReg) ∧
        t.trace = s.trace ++ .xfer .pb .probe [0x00#8] .ok (some [b]) :: landEvents 0 s ∧ Landed 0 b s t ∧ t.env = e ∧
        SameBut [.attempt, .pbSynced, .op, .stateReg, .mem, .pbPending, .trace, .env] s t) ∧
    (pbDraw s.par.block s.env = (.fail, e) →
      ∃ t, exec .stepSyncpbProbe s = .next t ∧ FaultEntered 0x21#8 (.xfer .pb .probe [0x00#8] .fail none) [] s t)

/-- The wait before the next PB probe (42 R92). -/
def Obligations.SyncPbDelayReturnsToProbe : Prop :=
  ∀ s : State, ∃ t, exec .stepSyncpbDelay s = .next t ∧ t.op = Op.syncpbProbe ∧
    t.trace = s.trace ++ [.delay s.par.retryDelay] ∧ SameBut [.op, .trace] s t

/-- One LCD probe of the scan (42 R94): it holds while a burst is in flight or the LCD does not clock; a marker selects
the tail, any other byte the next probe. -/
def Obligations.SyncLcdProbeScans : Prop :=
  ∀ (s : State) (e : Env),
    (s.lcdBusy = true → exec .stepSynclcdProbe s = .next s) ∧
    (s.lcdBusy = false → lcdDraw s.par.block 1 s.env = (.quiet, e) → exec .stepSynclcdProbe s = .next (s.withEnv e)) ∧
    (s.lcdBusy = false → lcdDraw s.par.block 1 s.env = (.fail, e) →
      ∃ t, exec .stepSynclcdProbe s = .next t ∧ FaultEntered 0x11#8 (.xfer .lcd .probe [0x00#8] .fail none) [] s t) ∧
    (∀ b, s.lcdBusy = false → lcdDraw s.par.block 1 s.env = (.ok [b], e) →
      ∃ t, exec .stepSynclcdProbe s = .next t ∧ t.bufByte .lcdRx 0 = b ∧ SameOutside s t (s.base .lcdRx) 1 ∧
        t.op = (if b = s.par.markerLcd then Op.synclcdTail else s.op) ∧
        t.trace = s.trace ++ [.xfer .lcd .probe [0x00#8] .ok (some [b])] ∧ t.env = e ∧
        SameBut [.mem, .op, .trace, .env] s t)

/-- The rest of the LCD frame (42 R95): a valid frame ends the scan, an invalid one is discarded without counting and the
scan starts again. -/
def Obligations.SyncLcdTailValidates : Prop :=
  ∀ (s : State) (e : Env),
    (s.lcdBusy = true → exec .stepSynclcdTail s = .next s) ∧
    (s.lcdBusy = false → lcdDraw s.par.block (s.par.n - 1) s.env = (.quiet, e) →
      exec .stepSynclcdTail s = .next (s.withEnv e)) ∧
    (s.lcdBusy = false → lcdDraw s.par.block (s.par.n - 1) s.env = (.fail, e) →
      ∃ t, exec .stepSynclcdTail s = .next t ∧
        FaultEntered 0x12#8 (.xfer .lcd .burstSync (syncTailTx s) .fail none) [] s t) ∧
    (∀ rx, s.lcdBusy = false → lcdDraw s.par.block (s.par.n - 1) s.env = (.ok rx, e) →
      let f := s.bufByte .lcdRx 0 :: rx
      ∃ t, exec .stepSynclcdTail s = .next t ∧ t.readBuf .lcdRx = f ∧
        SameOutside s t (s.base .lcdRx + 1) (s.par.n - 1) ∧
        (if validFrame s.par .lcd f then
           t.stateReg = St.syncedLcd ∧ t.op = Op.none ∧
             t.trace = s.trace ++ [.xfer .lcd .burstSync (syncTailTx s) .ok (some rx)]
         else
           t.stateReg = s.stateReg ∧ t.op = Op.synclcdProbe ∧
             t.trace = s.trace ++ [.xfer .lcd .burstSync (syncTailTx s) .ok (some rx), .chkFail .lcd .sync]) ∧
        SameBut [.mem, .stateReg, .op, .trace, .env] s t)

/-! The relay cycle. -/

/-- RequestLCD (43 R104): it holds while a burst is in flight; STATE is AwaitingLCD whether the start succeeds, which
sends the snapshot of LCD_TX, or fails, which enters fault 0x13. -/
def Obligations.RequestLcdStartsTheBurst : Prop :=
  ∀ (s : State) (e : Env),
    (s.lcdBusy = true → exec .stepRequestlcd s = .next s) ∧
    (s.lcdBusy = false → startDraw s.par.block s.env = (.ok, e) →
      ∃ t, exec .stepRequestlcd s = .next t ∧ t.stateReg = St.awaitingLcd ∧ t.lcdBusy = true ∧
        t.lcdInflightTx = s.readBuf .lcdTx ∧
        t.trace = s.trace ++ [.xfer .lcd .burstStart (s.readBuf .lcdTx) .ok (some [])] ∧ t.env = e ∧
        SameBut [.stateReg, .lcdBusy, .lcdInflightTx, .trace, .env] s t) ∧
    (s.lcdBusy = false → startDraw s.par.block s.env = (.fail, e) →
      ∃ t, exec .stepRequestlcd s = .next t ∧ t.stateReg = St.awaitingLcd ∧
        FaultEntered 0x13#8 (.xfer .lcd .burstStart (s.readBuf .lcdTx) .fail (some [])) [.stateReg] s t)

/-- LCDReceived (43 R107). On a valid frame the whole frame is copied to PB_TX and goes through the Overwrite Hook; with
the debug hook enabled the byte of LCD_TX its button code maps to goes up by one; no other byte of memory changes. On an
invalid frame the LCD counter goes up by one mod 256 and no buffer changes. Either way RequestPB is next, with its first
byte. -/
def Obligations.LcdReceivedForwardsOrCounts : Prop :=
  ∀ s : State,
    let f := s.readBuf .lcdRx
    let g := hook s.par .lcd2pb s.ruleset f
    (validFrame s.par .lcd f = true →
      ∃ t, exec .stepLcdreceived s = .next t ∧ t.readBuf .pbTx = g ∧
        (∀ a, ¬ (s.base .pbTx ≤ a ∧ a < s.base .pbTx + s.par.n) →
          t.byteAt a = if s.debugEn = true ∧ debugTarget s f = some a then s.byteAt a + 1#8 else s.byteAt a) ∧
        t.idx = 0#8 ∧ t.op = Op.pacedXfer ∧ t.stateReg = St.requestPb ∧
        t.trace = s.trace ++ [.hook .lcd2pb f g] ∧ SameBut [.mem, .idx, .op, .stateReg, .trace] s t) ∧
    (validFrame s.par .lcd f = false →
      ∃ t, exec .stepLcdreceived s = .next t ∧ t.errLcd.toNat = (s.errLcd.toNat + 1) % 256 ∧
        t.idx = 0#8 ∧ t.op = Op.pacedXfer ∧ t.stateReg = St.requestPb ∧
        t.trace = s.trace ++ [.chkFail .lcd .steady] ∧ SameBut [.errLcd, .idx, .op, .stateReg, .trace] s t)

/-- One byte of the Paced exchange (43 R108): `PB_TX[IDX]` goes out, the byte received lands for `PB_RX[IDX]`; the last
byte leads to PBReceived, an earlier one to the delay; a failed transaction enters fault 0x24 and changes nothing else. -/
def Obligations.RequestPbSendsOneByte : Prop :=
  ∀ (s : State) (e : Env), s.idx.toNat < s.par.n →
    (∀ b, pbDraw s.par.block s.env = (.byte b, e) →
      ∃ t, exec .stepRequestpbXfer s = .next t ∧
        (if s.idx.toNat = s.par.n - 1 then t.op = Op.none ∧ t.stateReg = St.pbReceived
         else t.op = Op.pacedDelay ∧ t.stateReg = s.stateReg) ∧
        t.trace = s.trace ++
          .xfer .pb .pacedByte [s.bufByte .pbTx s.idx.toNat] .ok (some [b]) :: landEvents s.idx.toNat s ∧
        Landed s.idx.toNat b s t ∧ t.env = e ∧
        SameBut [.op, .stateReg, .mem, .pbPending, .trace, .env] s t) ∧
    (pbDraw s.par.block s.env = (.fail, e) →
      ∃ t, exec .stepRequestpbXfer s = .next t ∧
        FaultEntered 0x24#8 (.xfer .pb .pacedByte [s.bufByte .pbTx s.idx.toNat] .fail none) [] s t)

/-- The inter-byte delay (43 R109). -/
def Obligations.RequestPbDelayAdvancesTheIndex : Prop :=
  ∀ s : State, ∃ t, exec .stepRequestpbDelay s = .next t ∧ t.idx = s.idx + 1#8 ∧ t.op = Op.pacedXfer ∧
    t.trace = s.trace ++ [.delay s.par.paceDelay] ∧ SameBut [.idx, .op, .trace] s t

/-- PBReceived (43 R111). On a valid frame the whole frame is copied to LCD_TX and goes through the Overwrite Hook; on an
invalid frame the PB counter goes up by one mod 256 and no buffer changes. Either way the heartbeat toggles and Idle is
next. -/
def Obligations.PbReceivedForwardsOrCounts : Prop :=
  ∀ s : State,
    let f := s.readBuf .pbRx
    let g := hook s.par .pb2lcd s.ruleset f
    (validFrame s.par .pb f = true →
      ∃ t, exec .stepPbreceived s = .next t ∧ t.readBuf .lcdTx = g ∧ SameOutside s t (s.base .lcdTx) s.par.n ∧
        t.indHeart = !s.indHeart ∧ t.stateReg = St.idle ∧ t.trace = s.trace ++ [.hook .pb2lcd f g] ∧
        SameBut [.mem, .indHeart, .stateReg, .trace] s t) ∧
    (validFrame s.par .pb f = false →
      ∃ t, exec .stepPbreceived s = .next t ∧ t.errPb.toNat = (s.errPb.toNat + 1) % 256 ∧
        t.indHeart = !s.indHeart ∧ t.stateReg = St.idle ∧ t.trace = s.trace ++ [.chkFail .pb .steady] ∧
        SameBut [.errPb, .indHeart, .stateReg, .trace] s t)

/-- A Paced byte past the frame is no byte of PB_TX: the instruction stops by name, in states no run reaches (model's
stop, log 17). -/
def Obligations.PacedByteStopsPastTheFrame : Prop :=
  ∀ s : State, (s.par.n ≤ s.idx.toNat → exec .stepRequestpbXfer s = .fault .noSuchByte) ∧
    ∀ i : Byte, s.par.n ≤ i.toNat → exec (.pacedByte i) s = .fault .noSuchByte

/-! Host accesses. -/

/-- What each host read answers, and that it changes nothing else (44 R117). -/
def Obligations.HostReadsAnswer : Prop :=
  ∀ (s : State) (d : Byte),
    let answers (i : Instr) (b : Byte) : Prop := ∃ t, exec i s = .next t ∧ t.readData = some b ∧ SameBut [.readData] s t
    answers (.rdCtrl d) (0#7 ++ BitVec.ofBool s.debugEn) ∧ answers (.rdCmd d) 0x00#8 ∧
    answers (.rdStatus d) (0#1 ++ BitVec.ofBool (isHalt s.stateReg) ++ BitVec.ofBool s.faulted ++
      BitVec.ofBool s.pbSynced ++ s.stateReg) ∧
    answers (.rdErrLcd d) s.errLcd ∧ answers (.rdErrPb d) s.errPb ∧ answers (.rdFaultCause d) s.faultCause ∧
    (∀ a, answers (.rdReserved67 a d) 0x00#8) ∧ (∀ a, answers (.rdReserved8F a d) 0x00#8)

/-- The fields of STATUS by bit number, and its value after POR (30 R65). -/
def Obligations.StatusFieldsByBit : Prop :=
  ∀ s : State, s.statusReg.extractLsb' 0 4 = s.stateReg ∧ s.statusReg.getLsbD 4 = s.pbSynced ∧
    s.statusReg.getLsbD 5 = s.faulted ∧ (s.statusReg.getLsbD 6 = true ↔ 12 ≤ s.stateReg.toNat) ∧
    s.statusReg.getLsbD 7 = false ∧ ∃ t, exec .evPor s = .next t ∧ t.statusReg = 0x00#8

/-- A CTRL write sets DEBUG_EN from DATA[0] alone (44 R118); a CMD write with DATA[0] = 1 and the SRST input set
SRST_PENDING and nothing else (44 R119). -/
def Obligations.HostWritesSetOneFlag : Prop :=
  ∀ s : State,
    (∀ d, ∃ t, exec (.wrCtrl d) s = .next t ∧ t.debugEn = d.getLsbD 0 ∧ SameBut [.debugEn] s t) ∧
    (∀ h, ∃ t, exec (.wrCmdSrst h) s = .next t ∧ t.srstPending = true ∧ SameBut [.srstPending] s t) ∧
    (∃ t, exec .evSrst s = .next t ∧ t.srstPending = true ∧ SameBut [.srstPending] s t)

/-- A CMD write with DATA[0] = 0 and a write to a read-only or reserved address change nothing (44 R120, R121). -/
def Obligations.OtherHostWritesAreIgnored : Prop :=
  ∀ (s : State) (a : BitVec 1) (b : BitVec 3) (d : Byte) (h : BitVec 7),
    exec (.wrCmdNop h) s = .next s ∧ exec (.wrRo23 a d) s = .next s ∧ exec (.wrRo45 a d) s = .next s ∧
    exec (.wrReserved67 a d) s = .next s ∧ exec (.wrReserved8F b d) s = .next s

/-- No host word reads or writes a buffer, and none faults (20 R42): the access completes, leaves memory, and on any other
contents of memory does exactly the same. -/
def Obligations.HostAccessReachesNoBuffer : Prop :=
  ∀ (w : BitVec 13) (s : State) (m : List Host.Cell),
    ∃ t, exec (decodeHost w) s = .next t ∧ t.mem = s.mem ∧ exec (decodeHost w) (s.withMem m) = .next (t.withMem m)

/-! Events. -/

/-- The power-on reset, from any state (70 R138): every element at its value, the buffers at their templates, the
parameters, RULESET and the environment as they were. -/
def Obligations.PowerOnSeedsEverything : Prop :=
  ∀ s : State, ∃ t, exec .evPor s = .next t ∧
    (t.stateReg = St.init ∧ t.op = Op.none ∧ t.idx = 0#8 ∧ t.attempt = 0#8) ∧
    (t.pbSynced = false ∧ t.debugEn = false ∧ t.faulted = false ∧ t.faultCause = 0x00#8 ∧ t.srstPending = false) ∧
    (t.errLcd = 0x00#8 ∧ t.errPb = 0x00#8) ∧
    (t.readBuf .lcdTx = s.par.tplLcdTx ∧ t.readBuf .lcdRx = s.par.tplLcdRx ∧ t.readBuf .pbTx = s.par.tplPbTx ∧
      t.readBuf .pbRx = s.par.tplPbRx) ∧
    (t.lcdBusy = false ∧ t.lcdInflightTx = List.replicate s.par.n 0x00#8) ∧
    ((∀ i, t.slot i = none) ∧ t.indHeart = false ∧ t.trace = []) ∧
    (t.par = s.par ∧ t.ruleset = s.ruleset ∧ t.env = s.env)

/-- The END form of an LCD completion (41 R88, 43 R106): the bytes land in LCD_RX, the burst is over, and only from
AwaitingLCD does the guard accept it. -/
def Obligations.LcdCompletionLandsThenGuards : Prop :=
  ∀ (s : State) (e : Env) (rx : List Byte), s.faulted = false → s.lcdBusy = true →
    doneDraw s.par.block s.par.n s.env = (.done rx, e) →
    ∃ t, exec .evDoneLcd s = .next t ∧ t.readBuf .lcdRx = rx ∧ SameOutside s t (s.base .lcdRx) s.par.n ∧
      t.lcdBusy = false ∧ t.stateReg = (if s.stateReg = St.awaitingLcd then St.lcdReceived else s.stateReg) ∧
      t.trace = s.trace ++ [.land .lcd 0 rx, .done .lcd (s.stateReg == St.awaitingLcd)] ∧ t.env = e ∧
      SameBut [.mem, .lcdBusy, .stateReg, .trace, .env] s t

/-- The SPURIOUS form (41 R88, 43 R106): no byte lands, the burst in flight stays in flight, and the guard runs. -/
def Obligations.SpuriousCompletionOnlyGuards : Prop :=
  ∀ (s : State) (e : Env), s.faulted = false →
    (s.lcdBusy = false ∨ doneDraw s.par.block s.par.n s.env = (.spurious, e)) →
    ∃ t, exec .evDoneLcd s = .next t ∧
      t.stateReg = (if s.stateReg = St.awaitingLcd then St.lcdReceived else s.stateReg) ∧
      t.trace = s.trace ++ [.done .lcd (s.stateReg == St.awaitingLcd)] ∧ SameBut [.stateReg, .trace, .env] s t

/-- A completion of the PB channel is accepted with no effect (44 R122), and a completion of the LCD is discarded while
the block is faulted (41 R88, its line for `FAULTED = 1`): the trace alone records them. R88's two forms are the two
statements before this one. -/
def Obligations.DiscardedCompletionsOnlyTrace : Prop :=
  ∀ s : State,
    (∃ t, exec .evDonePb s = .next t ∧ t.trace = s.trace ++ [.done .pb false] ∧ SameBut [.trace] s t) ∧
    (s.faulted = true → ∃ t, exec .evDoneLcd s = .next t ∧ t.trace = s.trace ++ [.done .lcd false] ∧
      SameBut [.trace] s t)

/-- The host's step that replaces RULESET (44 R123). -/
def Obligations.RulesetStepReplacesTheRuleset : Prop :=
  ∀ (s : State) (r : Ruleset) (rest : List Stimulus), s.env.inbox = .move (.setRuleset r) :: rest →
    ∃ t, step s = .next t ∧ t.ruleset = r ∧ t.env = { s.env with inbox := rest } ∧ SameBut [.ruleset, .env] s t

/-! Packet model. -/

/-- CHECKSUM (40 R75) and VALID (40 R76) run on their own leave their result in the model's result field and write
nothing else. -/
def Obligations.ChecksumAndValidRowsAnswer : Prop :=
  ∀ (s : State) (ch : Port) (b : Buf),
    (∃ t, exec (.checksum ch b) s = .next t ∧
      t.opResult = some (chk s.par ch ((s.readBuf b).take (s.par.n - 1))) ∧ SameBut [.opResult] s t) ∧
    (∃ t, exec (.valid ch b) s = .next t ∧
      t.opResult = some (if s.bufByte b (s.par.n - 1) = chk s.par ch ((s.readBuf b).take (s.par.n - 1)) then 0x01#8
        else 0x00#8) ∧ SameBut [.opResult] s t)

/-- A frame is valid exactly when its last byte is the checksum of the bytes before it; so changing that byte alone makes
a valid frame invalid (40 R76). -/
def Obligations.ChecksumByteDecidesValidity : Prop :=
  ∀ (p : Params) (ch : Port) (f : List Byte), f.length = p.n →
    (validFrame p ch f = true ↔ f[p.n - 1]? = some (chk p ch (f.take (p.n - 1)))) ∧
    (validFrame p ch f = true → ∀ b, f[p.n - 1]? ≠ some b → validFrame p ch (f.set (p.n - 1) b) = false)

/-- COPY (40 R78): the destination holds what the source held, every other byte stays, and a copy onto itself changes
nothing. -/
def Obligations.CopyReplicatesTheFrame : Prop :=
  ∀ (s : State) (src dst : Buf), ∃ t, exec (.copy src dst) s = .next t ∧ t.readBuf dst = s.readBuf src ∧
    SameOutside s t (s.base dst) s.par.n ∧ (src = dst → SameBut [] s t) ∧ SameBut [.mem] s t

/-! Transfer engine. -/

/-- PROBE (41 R85), on the LCD with its holds and on the PB with its landing: 0x00 goes out, the byte received is kept at
RX[0] and returned; a failed transaction enters fault 0x11 or 0x21. -/
def Obligations.ProbeExchangesOneByte : Prop :=
  ∀ (s : State) (e : Env),
    (s.lcdBusy = true → exec (.probe .lcd) s = .next s) ∧
    (s.lcdBusy = false → lcdDraw s.par.block 1 s.env = (.quiet, e) → exec (.probe .lcd) s = .next (s.withEnv e)) ∧
    (s.lcdBusy = false → lcdDraw s.par.block 1 s.env = (.fail, e) →
      ∃ t, exec (.probe .lcd) s = .next t ∧ FaultEntered 0x11#8 (.xfer .lcd .probe [0x00#8] .fail none) [] s t) ∧
    (∀ b, s.lcdBusy = false → lcdDraw s.par.block 1 s.env = (.ok [b], e) →
      ∃ t, exec (.probe .lcd) s = .next t ∧ t.bufByte .lcdRx 0 = b ∧ SameOutside s t (s.base .lcdRx) 1 ∧
        t.opResult = some b ∧ t.trace = s.trace ++ [.xfer .lcd .probe [0x00#8] .ok (some [b])] ∧ t.env = e ∧
        SameBut [.mem, .opResult, .trace, .env] s t) ∧
    (pbDraw s.par.block s.env = (.fail, e) →
      ∃ t, exec (.probe .pb) s = .next t ∧ FaultEntered 0x21#8 (.xfer .pb .probe [0x00#8] .fail none) [] s t) ∧
    (∀ b, pbDraw s.par.block s.env = (.byte b, e) →
      ∃ t, exec (.probe .pb) s = .next t ∧ Landed 0 b s t ∧ t.opResult = some b ∧
        t.trace = s.trace ++ .xfer .pb .probe [0x00#8] .ok (some [b]) :: landEvents 0 s ∧ t.env = e ∧
        SameBut [.mem, .pbPending, .opResult, .trace, .env] s t)

/-- BURST_SYNC (41 R86): one call moves N-1 bytes, LCD_TX[1..N-1] or zeros by SYNC_TAIL_TX, into LCD_RX[1..N-1]. -/
def Obligations.BurstSyncMovesTheTail : Prop :=
  ∀ (s : State) (e : Env),
    let tx := match s.par.syncTail with
      | .txTail => (s.readBuf .lcdTx).drop 1
      | .zeros => List.replicate (s.par.n - 1) 0x00#8
    (s.lcdBusy = true → exec .burstSync s = .next s) ∧
    (s.lcdBusy = false → lcdDraw s.par.block (s.par.n - 1) s.env = (.quiet, e) →
      exec .burstSync s = .next (s.withEnv e)) ∧
    (s.lcdBusy = false → lcdDraw s.par.block (s.par.n - 1) s.env = (.fail, e) →
      ∃ t, exec .burstSync s = .next t ∧ FaultEntered 0x12#8 (.xfer .lcd .burstSync tx .fail none) [] s t) ∧
    (∀ rx, s.lcdBusy = false → lcdDraw s.par.block (s.par.n - 1) s.env = (.ok rx, e) →
      ∃ t, exec .burstSync s = .next t ∧ (t.readBuf .lcdRx).drop 1 = rx ∧
        SameOutside s t (s.base .lcdRx + 1) (s.par.n - 1) ∧
        t.trace = s.trace ++ [.xfer .lcd .burstSync tx .ok (some rx)] ∧ t.env = e ∧
        SameBut [.mem, .trace, .env] s t)

/-- BURST_START (41 R87): the snapshot of LCD_TX is in flight, or fault 0x13 is entered. R87 gives `LCD_BUSY = 0` as a
precondition that the caller keeps; that the row run on its own with a burst in flight waits, a step that changes nothing,
is the model's choice (log 1, 16, 42). -/
def Obligations.BurstStartTakesTheSnapshot : Prop :=
  ∀ (s : State) (e : Env),
    (s.lcdBusy = true → exec .burstStart s = .next s) ∧
    (s.lcdBusy = false → startDraw s.par.block s.env = (.ok, e) →
      ∃ t, exec .burstStart s = .next t ∧ t.lcdBusy = true ∧ t.lcdInflightTx = s.readBuf .lcdTx ∧
        t.trace = s.trace ++ [.xfer .lcd .burstStart (s.readBuf .lcdTx) .ok (some [])] ∧ t.env = e ∧
        SameBut [.lcdBusy, .lcdInflightTx, .trace, .env] s t) ∧
    (s.lcdBusy = false → startDraw s.par.block s.env = (.fail, e) →
      ∃ t, exec .burstStart s = .next t ∧
        FaultEntered 0x13#8 (.xfer .lcd .burstStart (s.readBuf .lcdTx) .fail (some [])) [] s t)

/-- PACED_BYTE of an index inside the frame (41 R89). -/
def Obligations.PacedByteExchangesOneByte : Prop :=
  ∀ (s : State) (e : Env) (i : Byte), i.toNat < s.par.n →
    (∀ b, pbDraw s.par.block s.env = (.byte b, e) →
      ∃ t, exec (.pacedByte i) s = .next t ∧ Landed i.toNat b s t ∧
        t.trace = s.trace ++
          .xfer .pb .pacedByte [s.bufByte .pbTx i.toNat] .ok (some [b]) :: landEvents i.toNat s ∧ t.env = e ∧
        SameBut [.mem, .pbPending, .trace, .env] s t) ∧
    (pbDraw s.par.block s.env = (.fail, e) →
      ∃ t, exec (.pacedByte i) s = .next t ∧
        FaultEntered 0x24#8 (.xfer .pb .pacedByte [s.bufByte .pbTx i.toNat] .fail none) [] s t)

/-- DELAY (41 R90): a trace event with the duration's parameter, and nothing else. -/
def Obligations.DelayOnlyTraces : Prop :=
  ∀ s : State,
    (∃ t, exec (.delay .pace) s = .next t ∧ t.trace = s.trace ++ [.delay s.par.paceDelay] ∧ SameBut [.trace] s t) ∧
    (∃ t, exec (.delay .retry) s = .next t ∧ t.trace = s.trace ++ [.delay s.par.retryDelay] ∧ SameBut [.trace] s t)

/-- PB_LAND (20 R51): in ANY_PENDING the chosen slot's byte lands in PB_RX and the slot is empty; a slot that holds
nothing, and EXACT, leave everything. -/
def Obligations.PbLandLandsOneSlot : Prop :=
  ∀ (s : State) (i : Byte),
    (∀ p, s.par.race = .anyPending → s.slot i.toNat = some p →
      ∃ t, exec (.pbLand i) s = .next t ∧ t.bufByte .pbRx i.toNat = p ∧
        SameOutside s t (s.base .pbRx + i.toNat) 1 ∧ t.slot i.toNat = none ∧
        (∀ j, j ≠ i.toNat → t.slot j = s.slot j) ∧ t.trace = s.trace ++ [.land .pb i.toNat [p]] ∧
        SameBut [.mem, .pbPending, .trace] s t) ∧
    (s.par.race = .exact ∨ s.slot i.toNat = none → exec (.pbLand i) s = .next s)

/-! Hooks and indicators. -/

/-- HOOK_APPLY (43 R113): the buffer of the direction becomes what HOOK makes of it under the current RULESET, and nothing
else changes. -/
def Obligations.HookApplyRewritesItsBuffer : Prop :=
  ∀ (s : State) (d : Dir),
    let b := match d with
      | .lcd2pb => Buf.pbTx
      | .pb2lcd => Buf.lcdTx
    let w := hook s.par d s.ruleset (s.readBuf b)
    ∃ t, exec (.hookApply d) s = .next t ∧ t.readBuf b = w ∧ SameOutside s t (s.base b) s.par.n ∧
      t.trace = s.trace ++ [.hook d (s.readBuf b) w] ∧ SameBut [.mem, .trace] s t

/-- DEBUG_HOOK (43 R114): when enabled and the button code of LCD_RX maps to an index, that byte of LCD_TX goes up by one
mod 256; otherwise nothing changes. -/
def Obligations.DebugHookIncrementsOneByte : Prop :=
  ∀ s : State, ∃ t, exec .debugHook s = .next t ∧
    (∀ a, t.byteAt a = if s.debugEn = true ∧ debugTarget s (s.readBuf .lcdRx) = some a then s.byteAt a + 1#8
      else s.byteAt a) ∧ SameBut [.mem] s t

/-- The four indicator outputs (60 R131). -/
def Obligations.IndicatorsShowTheState : Prop :=
  ∀ s : State,
    (s.indBoot = true ↔ s.stateReg = St.init ∨ 12 ≤ s.stateReg.toNat) ∧
    (s.indSync = true ↔ s.stateReg = St.syncingPb ∨ s.stateReg = St.syncingLcd ∨ 12 ≤ s.stateReg.toNat) ∧
    (s.indHeartOut = true ↔ s.indHeart = true ∨ 12 ≤ s.stateReg.toNat) ∧
    (s.indFault = true ↔ s.faulted = true ∨ 12 ≤ s.stateReg.toNat)

/-! Several steps. -/

/-- The relay of one LCD frame (43 R115), from RequestLCD through the burst and its END to RequestPB: a valid frame
reaches PB_TX through the hook, an invalid one leaves PB_TX and counts once. -/
def Obligations.LcdFrameReachesThePb : Prop :=
  ∀ (s : State) (f : List Byte) (starts : List Status) (dones : List Completion) (rest : List Stimulus),
    s.stateReg = St.requestLcd → s.op = Op.none → s.faulted = false → s.srstPending = false → s.lcdBusy = false →
    s.env.starts = .ok :: starts → s.env.dones = .done f :: dones → f.length = s.par.n →
    s.env.inbox = .move .controller :: .move (.event 0b10#2) :: .move .controller :: rest →
    ∃ t : State, Host.Core.run core 3 s = .next t ∧ t.stateReg = St.requestPb ∧ t.readBuf .lcdRx = f ∧
      (if validFrame s.par .lcd f then
         t.readBuf .pbTx = hook s.par .lcd2pb s.ruleset f ∧ t.errLcd = s.errLcd
       else t.readBuf .pbTx = s.readBuf .pbTx ∧ t.errLcd.toNat = (s.errLcd.toNat + 1) % 256)

/-- A whole Paced exchange (41 R89): 2N-1 micro-steps, exactly N one-byte transactions carrying PB_TX and N-1 delays
between them; with EXACT, PB_RX is then what the PB returned. -/
def Obligations.PacedExchangeSendsTheWholeFrame : Prop :=
  ∀ (s : State) (bs : List Byte) (more : List PbReply) (rest : List Stimulus),
    s.stateReg = St.requestPb → s.op = Op.pacedXfer → s.idx = 0#8 → s.faulted = false → s.srstPending = false →
    bs.length = s.par.n → s.env.pbStream = bs.map PbReply.byte ++ more →
    s.env.inbox = List.replicate (2 * s.par.n - 1) (.move .controller) ++ rest →
    ∃ (t : State) (es : List Event), Host.Core.run core (2 * s.par.n - 1) s = .next t ∧
      t.stateReg = St.pbReceived ∧ t.op = Op.none ∧ t.faulted = false ∧ t.trace = s.trace ++ es ∧
      es.filter (fun ev => ev.isXfer || ev.isDelay) =
        List.intersperse (.delay s.par.paceDelay)
          (List.zipWith (fun a b => .xfer .pb .pacedByte [a] .ok (some [b])) (s.readBuf .pbTx) bs) ∧
      (s.par.race = .exact → t.readBuf .pbRx = bs)

/-- A Paced exchange whose call k+1 fails (41 R89): exactly k+1 transactions and k delays between them, fault 0x24, and the
state and index of the failed byte; the bytes after it are not sent. -/
def Obligations.PacedFailureStopsTheExchange : Prop :=
  ∀ (s : State) (bs : List Byte) (more : List PbReply) (rest : List Stimulus),
    s.stateReg = St.requestPb → s.op = Op.pacedXfer → s.idx = 0#8 → s.faulted = false → s.srstPending = false →
    bs.length < s.par.n → s.env.pbStream = bs.map PbReply.byte ++ .fail :: more →
    s.env.inbox = List.replicate (2 * bs.length + 1) (.move .controller) ++ rest →
    ∃ (t : State) (es : List Event), Host.Core.run core (2 * bs.length + 1) s = .next t ∧
      t.faulted = true ∧ t.faultCause = 0x24#8 ∧ t.stateReg = St.requestPb ∧ t.op = Op.pacedXfer ∧
      t.idx.toNat = bs.length ∧ t.trace = s.trace ++ es ∧
      es.filter (fun ev => ev.isXfer || ev.isDelay) =
        List.intersperse (.delay s.par.paceDelay)
          (List.zipWith (fun a b => .xfer .pb .pacedByte [a] .ok (some [b])) (s.readBuf .pbTx) bs ++
            [.xfer .pb .pacedByte [s.bufByte .pbTx bs.length] .fail none])

/-- A SyncPB scan in which the marker never appears (42 R93): K probes, K-1 delays, "not synced", no fault. -/
def Obligations.SyncPbGivesUpAfterKProbes : Prop :=
  ∀ (s : State) (bs : List Byte) (more : List PbReply) (rest : List Stimulus),
    s.stateReg = St.syncingPb → s.op = Op.syncpbProbe → s.attempt = 0#8 → s.faulted = false → s.srstPending = false →
    bs.length = s.par.maxAttempts → (∀ b ∈ bs, b ≠ s.par.markerPb) → s.env.pbStream = bs.map PbReply.byte ++ more →
    s.env.inbox = List.replicate (2 * s.par.maxAttempts - 1) (.move .controller) ++ rest →
    ∃ (t : State) (es : List Event), Host.Core.run core (2 * s.par.maxAttempts - 1) s = .next t ∧
      t.stateReg = St.syncedPb ∧ t.op = Op.none ∧ t.pbSynced = false ∧ t.faulted = false ∧
      t.attempt.toNat = s.par.maxAttempts ∧ t.trace = s.trace ++ es ∧
      es.filter (fun ev => ev.isXfer || ev.isDelay) =
        List.intersperse (.delay s.par.retryDelay) (bs.map fun b => .xfer .pb .probe [0x00#8] .ok (some [b]))

/-- A completion and a soft-reset request in AwaitingLCD, in either order (60 R130): either way Init is next, the bytes have
landed in LCD_RX and PB_TX is as it was; only the completion that comes first is accepted. -/
def Obligations.CompletionAndSoftResetInEitherOrder : Prop :=
  ∀ (s : State) (rx : List Byte) (dones : List Completion) (rest : List Stimulus),
    s.stateReg = St.awaitingLcd → s.faulted = false → s.lcdBusy = true → s.srstPending = false →
    s.env.dones = .done rx :: dones → rx.length = s.par.n →
    (s.env.inbox = .move (.event 0b10#2) :: .move (.event 0b01#2) :: .move .controller :: rest →
      ∃ t : State, Host.Core.run core 3 s = .next t ∧ t.stateReg = St.init ∧ t.srstPending = false ∧
        t.readBuf .lcdRx = rx ∧ t.readBuf .pbTx = s.readBuf .pbTx ∧
        t.trace = s.trace ++ [.land .lcd 0 rx, .done .lcd true, .srst]) ∧
    (s.env.inbox = .move (.event 0b01#2) :: .move .controller :: .move (.event 0b10#2) :: rest →
      ∃ t : State, Host.Core.run core 3 s = .next t ∧ t.stateReg = St.init ∧ t.srstPending = false ∧
        t.readBuf .lcdRx = rx ∧ t.readBuf .pbTx = s.readBuf .pbTx ∧
        t.trace = s.trace ++ [.srst, .land .lcd 0 rx, .done .lcd false])

/-- Every state code in use is reached from a power-on reset by some answers of the boards, whatever the configuration
(43 R116): `e` is the environment that gives them, and no fault is entered. -/
def Obligations.EveryUsedStateIsReached : Prop :=
  ∀ (s : State) (code : BitVec 4), unusedCode code = false →
    ∃ (e : Env) (k : Nat) (t : State),
      Host.Core.run core k (powerOn (s.withEnv e)) = .next t ∧ t.stateReg = code ∧ t.faulted = false
end

