-- ==== Sys2Proof/Laws/State.lean ====
section
/-! SUPPORT. The small lemmas of the state updates: one per field and named update, each true by unfolding, so that no
later proof unfolds a record update. -/

namespace Sys2Proof.Machine

/-! State.emit -/

@[simp] theorem State.emit_par (s : State) (e : Event) : (s.emit e).par = s.par := rfl
@[simp] theorem State.emit_ruleset (s : State) (e : Event) : (s.emit e).ruleset = s.ruleset := rfl
@[simp] theorem State.emit_stateReg (s : State) (e : Event) : (s.emit e).stateReg = s.stateReg := rfl
@[simp] theorem State.emit_op (s : State) (e : Event) : (s.emit e).op = s.op := rfl
@[simp] theorem State.emit_idx (s : State) (e : Event) : (s.emit e).idx = s.idx := rfl
@[simp] theorem State.emit_attempt (s : State) (e : Event) : (s.emit e).attempt = s.attempt := rfl
@[simp] theorem State.emit_pbSynced (s : State) (e : Event) : (s.emit e).pbSynced = s.pbSynced := rfl
@[simp] theorem State.emit_debugEn (s : State) (e : Event) : (s.emit e).debugEn = s.debugEn := rfl
@[simp] theorem State.emit_faulted (s : State) (e : Event) : (s.emit e).faulted = s.faulted := rfl
@[simp] theorem State.emit_faultCause (s : State) (e : Event) : (s.emit e).faultCause = s.faultCause := rfl
@[simp] theorem State.emit_srstPending (s : State) (e : Event) : (s.emit e).srstPending = s.srstPending := rfl
@[simp] theorem State.emit_errLcd (s : State) (e : Event) : (s.emit e).errLcd = s.errLcd := rfl
@[simp] theorem State.emit_errPb (s : State) (e : Event) : (s.emit e).errPb = s.errPb := rfl
@[simp] theorem State.emit_mem (s : State) (e : Event) : (s.emit e).mem = s.mem := rfl
@[simp] theorem State.emit_lcdBusy (s : State) (e : Event) : (s.emit e).lcdBusy = s.lcdBusy := rfl
@[simp] theorem State.emit_lcdInflightTx (s : State) (e : Event) : (s.emit e).lcdInflightTx = s.lcdInflightTx := rfl
@[simp] theorem State.emit_pbPending (s : State) (e : Event) : (s.emit e).pbPending = s.pbPending := rfl
@[simp] theorem State.emit_indHeart (s : State) (e : Event) : (s.emit e).indHeart = s.indHeart := rfl
@[simp] theorem State.emit_trace (s : State) (e : Event) : (s.emit e).trace = s.trace ++ [e] := rfl
@[simp] theorem State.emit_env (s : State) (e : Event) : (s.emit e).env = s.env := rfl
@[simp] theorem State.emit_readData (s : State) (e : Event) : (s.emit e).readData = s.readData := rfl
@[simp] theorem State.emit_opResult (s : State) (e : Event) : (s.emit e).opResult = s.opResult := rfl

/-! State.goto -/

@[simp] theorem State.goto_par (s : State) (st : BitVec 4) (o : BitVec 3) : (s.goto st o).par = s.par := rfl
@[simp] theorem State.goto_ruleset (s : State) (st : BitVec 4) (o : BitVec 3) : (s.goto st o).ruleset = s.ruleset := rfl
@[simp] theorem State.goto_stateReg (s : State) (st : BitVec 4) (o : BitVec 3) : (s.goto st o).stateReg = st := rfl
@[simp] theorem State.goto_op (s : State) (st : BitVec 4) (o : BitVec 3) : (s.goto st o).op = o := rfl
@[simp] theorem State.goto_idx (s : State) (st : BitVec 4) (o : BitVec 3) : (s.goto st o).idx = s.idx := rfl
@[simp] theorem State.goto_attempt (s : State) (st : BitVec 4) (o : BitVec 3) : (s.goto st o).attempt = s.attempt := rfl
@[simp] theorem State.goto_pbSynced (s : State) (st : BitVec 4) (o : BitVec 3) : (s.goto st o).pbSynced = s.pbSynced := rfl
@[simp] theorem State.goto_debugEn (s : State) (st : BitVec 4) (o : BitVec 3) : (s.goto st o).debugEn = s.debugEn := rfl
@[simp] theorem State.goto_faulted (s : State) (st : BitVec 4) (o : BitVec 3) : (s.goto st o).faulted = s.faulted := rfl
@[simp] theorem State.goto_faultCause (s : State) (st : BitVec 4) (o : BitVec 3) : (s.goto st o).faultCause = s.faultCause := rfl
@[simp] theorem State.goto_srstPending (s : State) (st : BitVec 4) (o : BitVec 3) : (s.goto st o).srstPending = s.srstPending := rfl
@[simp] theorem State.goto_errLcd (s : State) (st : BitVec 4) (o : BitVec 3) : (s.goto st o).errLcd = s.errLcd := rfl
@[simp] theorem State.goto_errPb (s : State) (st : BitVec 4) (o : BitVec 3) : (s.goto st o).errPb = s.errPb := rfl
@[simp] theorem State.goto_mem (s : State) (st : BitVec 4) (o : BitVec 3) : (s.goto st o).mem = s.mem := rfl
@[simp] theorem State.goto_lcdBusy (s : State) (st : BitVec 4) (o : BitVec 3) : (s.goto st o).lcdBusy = s.lcdBusy := rfl
@[simp] theorem State.goto_lcdInflightTx (s : State) (st : BitVec 4) (o : BitVec 3) : (s.goto st o).lcdInflightTx = s.lcdInflightTx := rfl
@[simp] theorem State.goto_pbPending (s : State) (st : BitVec 4) (o : BitVec 3) : (s.goto st o).pbPending = s.pbPending := rfl
@[simp] theorem State.goto_indHeart (s : State) (st : BitVec 4) (o : BitVec 3) : (s.goto st o).indHeart = s.indHeart := rfl
@[simp] theorem State.goto_trace (s : State) (st : BitVec 4) (o : BitVec 3) : (s.goto st o).trace = s.trace := rfl
@[simp] theorem State.goto_env (s : State) (st : BitVec 4) (o : BitVec 3) : (s.goto st o).env = s.env := rfl
@[simp] theorem State.goto_readData (s : State) (st : BitVec 4) (o : BitVec 3) : (s.goto st o).readData = s.readData := rfl
@[simp] theorem State.goto_opResult (s : State) (st : BitVec 4) (o : BitVec 3) : (s.goto st o).opResult = s.opResult := rfl

/-! State.withMem -/

@[simp] theorem State.withMem_par (s : State) (m : List Host.Cell) : (s.withMem m).par = s.par := rfl
@[simp] theorem State.withMem_ruleset (s : State) (m : List Host.Cell) : (s.withMem m).ruleset = s.ruleset := rfl
@[simp] theorem State.withMem_stateReg (s : State) (m : List Host.Cell) : (s.withMem m).stateReg = s.stateReg := rfl
@[simp] theorem State.withMem_op (s : State) (m : List Host.Cell) : (s.withMem m).op = s.op := rfl
@[simp] theorem State.withMem_idx (s : State) (m : List Host.Cell) : (s.withMem m).idx = s.idx := rfl
@[simp] theorem State.withMem_attempt (s : State) (m : List Host.Cell) : (s.withMem m).attempt = s.attempt := rfl
@[simp] theorem State.withMem_pbSynced (s : State) (m : List Host.Cell) : (s.withMem m).pbSynced = s.pbSynced := rfl
@[simp] theorem State.withMem_debugEn (s : State) (m : List Host.Cell) : (s.withMem m).debugEn = s.debugEn := rfl
@[simp] theorem State.withMem_faulted (s : State) (m : List Host.Cell) : (s.withMem m).faulted = s.faulted := rfl
@[simp] theorem State.withMem_faultCause (s : State) (m : List Host.Cell) : (s.withMem m).faultCause = s.faultCause := rfl
@[simp] theorem State.withMem_srstPending (s : State) (m : List Host.Cell) : (s.withMem m).srstPending = s.srstPending := rfl
@[simp] theorem State.withMem_errLcd (s : State) (m : List Host.Cell) : (s.withMem m).errLcd = s.errLcd := rfl
@[simp] theorem State.withMem_errPb (s : State) (m : List Host.Cell) : (s.withMem m).errPb = s.errPb := rfl
@[simp] theorem State.withMem_mem (s : State) (m : List Host.Cell) : (s.withMem m).mem = m := rfl
@[simp] theorem State.withMem_lcdBusy (s : State) (m : List Host.Cell) : (s.withMem m).lcdBusy = s.lcdBusy := rfl
@[simp] theorem State.withMem_lcdInflightTx (s : State) (m : List Host.Cell) : (s.withMem m).lcdInflightTx = s.lcdInflightTx := rfl
@[simp] theorem State.withMem_pbPending (s : State) (m : List Host.Cell) : (s.withMem m).pbPending = s.pbPending := rfl
@[simp] theorem State.withMem_indHeart (s : State) (m : List Host.Cell) : (s.withMem m).indHeart = s.indHeart := rfl
@[simp] theorem State.withMem_trace (s : State) (m : List Host.Cell) : (s.withMem m).trace = s.trace := rfl
@[simp] theorem State.withMem_env (s : State) (m : List Host.Cell) : (s.withMem m).env = s.env := rfl
@[simp] theorem State.withMem_readData (s : State) (m : List Host.Cell) : (s.withMem m).readData = s.readData := rfl
@[simp] theorem State.withMem_opResult (s : State) (m : List Host.Cell) : (s.withMem m).opResult = s.opResult := rfl

/-! State.withEnv -/

@[simp] theorem State.withEnv_par (s : State) (e : Env) : (s.withEnv e).par = s.par := rfl
@[simp] theorem State.withEnv_ruleset (s : State) (e : Env) : (s.withEnv e).ruleset = s.ruleset := rfl
@[simp] theorem State.withEnv_stateReg (s : State) (e : Env) : (s.withEnv e).stateReg = s.stateReg := rfl
@[simp] theorem State.withEnv_op (s : State) (e : Env) : (s.withEnv e).op = s.op := rfl
@[simp] theorem State.withEnv_idx (s : State) (e : Env) : (s.withEnv e).idx = s.idx := rfl
@[simp] theorem State.withEnv_attempt (s : State) (e : Env) : (s.withEnv e).attempt = s.attempt := rfl
@[simp] theorem State.withEnv_pbSynced (s : State) (e : Env) : (s.withEnv e).pbSynced = s.pbSynced := rfl
@[simp] theorem State.withEnv_debugEn (s : State) (e : Env) : (s.withEnv e).debugEn = s.debugEn := rfl
@[simp] theorem State.withEnv_faulted (s : State) (e : Env) : (s.withEnv e).faulted = s.faulted := rfl
@[simp] theorem State.withEnv_faultCause (s : State) (e : Env) : (s.withEnv e).faultCause = s.faultCause := rfl
@[simp] theorem State.withEnv_srstPending (s : State) (e : Env) : (s.withEnv e).srstPending = s.srstPending := rfl
@[simp] theorem State.withEnv_errLcd (s : State) (e : Env) : (s.withEnv e).errLcd = s.errLcd := rfl
@[simp] theorem State.withEnv_errPb (s : State) (e : Env) : (s.withEnv e).errPb = s.errPb := rfl
@[simp] theorem State.withEnv_mem (s : State) (e : Env) : (s.withEnv e).mem = s.mem := rfl
@[simp] theorem State.withEnv_lcdBusy (s : State) (e : Env) : (s.withEnv e).lcdBusy = s.lcdBusy := rfl
@[simp] theorem State.withEnv_lcdInflightTx (s : State) (e : Env) : (s.withEnv e).lcdInflightTx = s.lcdInflightTx := rfl
@[simp] theorem State.withEnv_pbPending (s : State) (e : Env) : (s.withEnv e).pbPending = s.pbPending := rfl
@[simp] theorem State.withEnv_indHeart (s : State) (e : Env) : (s.withEnv e).indHeart = s.indHeart := rfl
@[simp] theorem State.withEnv_trace (s : State) (e : Env) : (s.withEnv e).trace = s.trace := rfl
@[simp] theorem State.withEnv_env (s : State) (e : Env) : (s.withEnv e).env = e := rfl
@[simp] theorem State.withEnv_readData (s : State) (e : Env) : (s.withEnv e).readData = s.readData := rfl
@[simp] theorem State.withEnv_opResult (s : State) (e : Env) : (s.withEnv e).opResult = s.opResult := rfl

/-! State.withPending -/

@[simp] theorem State.withPending_par (s : State) (c : List Host.Cell) : (s.withPending c).par = s.par := rfl
@[simp] theorem State.withPending_ruleset (s : State) (c : List Host.Cell) : (s.withPending c).ruleset = s.ruleset := rfl
@[simp] theorem State.withPending_stateReg (s : State) (c : List Host.Cell) : (s.withPending c).stateReg = s.stateReg := rfl
@[simp] theorem State.withPending_op (s : State) (c : List Host.Cell) : (s.withPending c).op = s.op := rfl
@[simp] theorem State.withPending_idx (s : State) (c : List Host.Cell) : (s.withPending c).idx = s.idx := rfl
@[simp] theorem State.withPending_attempt (s : State) (c : List Host.Cell) : (s.withPending c).attempt = s.attempt := rfl
@[simp] theorem State.withPending_pbSynced (s : State) (c : List Host.Cell) : (s.withPending c).pbSynced = s.pbSynced := rfl
@[simp] theorem State.withPending_debugEn (s : State) (c : List Host.Cell) : (s.withPending c).debugEn = s.debugEn := rfl
@[simp] theorem State.withPending_faulted (s : State) (c : List Host.Cell) : (s.withPending c).faulted = s.faulted := rfl
@[simp] theorem State.withPending_faultCause (s : State) (c : List Host.Cell) : (s.withPending c).faultCause = s.faultCause := rfl
@[simp] theorem State.withPending_srstPending (s : State) (c : List Host.Cell) : (s.withPending c).srstPending = s.srstPending := rfl
@[simp] theorem State.withPending_errLcd (s : State) (c : List Host.Cell) : (s.withPending c).errLcd = s.errLcd := rfl
@[simp] theorem State.withPending_errPb (s : State) (c : List Host.Cell) : (s.withPending c).errPb = s.errPb := rfl
@[simp] theorem State.withPending_mem (s : State) (c : List Host.Cell) : (s.withPending c).mem = s.mem := rfl
@[simp] theorem State.withPending_lcdBusy (s : State) (c : List Host.Cell) : (s.withPending c).lcdBusy = s.lcdBusy := rfl
@[simp] theorem State.withPending_lcdInflightTx (s : State) (c : List Host.Cell) : (s.withPending c).lcdInflightTx = s.lcdInflightTx := rfl
@[simp] theorem State.withPending_pbPending (s : State) (c : List Host.Cell) : (s.withPending c).pbPending = c := rfl
@[simp] theorem State.withPending_indHeart (s : State) (c : List Host.Cell) : (s.withPending c).indHeart = s.indHeart := rfl
@[simp] theorem State.withPending_trace (s : State) (c : List Host.Cell) : (s.withPending c).trace = s.trace := rfl
@[simp] theorem State.withPending_env (s : State) (c : List Host.Cell) : (s.withPending c).env = s.env := rfl
@[simp] theorem State.withPending_readData (s : State) (c : List Host.Cell) : (s.withPending c).readData = s.readData := rfl
@[simp] theorem State.withPending_opResult (s : State) (c : List Host.Cell) : (s.withPending c).opResult = s.opResult := rfl

/-! raiseTransportFault -/

@[simp] theorem raiseTransportFault_par (c : Byte) (s : State) : (raiseTransportFault c s).par = s.par := rfl
@[simp] theorem raiseTransportFault_ruleset (c : Byte) (s : State) : (raiseTransportFault c s).ruleset = s.ruleset := rfl
@[simp] theorem raiseTransportFault_stateReg (c : Byte) (s : State) : (raiseTransportFault c s).stateReg = s.stateReg := rfl
@[simp] theorem raiseTransportFault_op (c : Byte) (s : State) : (raiseTransportFault c s).op = s.op := rfl
@[simp] theorem raiseTransportFault_idx (c : Byte) (s : State) : (raiseTransportFault c s).idx = s.idx := rfl
@[simp] theorem raiseTransportFault_attempt (c : Byte) (s : State) : (raiseTransportFault c s).attempt = s.attempt := rfl
@[simp] theorem raiseTransportFault_pbSynced (c : Byte) (s : State) : (raiseTransportFault c s).pbSynced = s.pbSynced := rfl
@[simp] theorem raiseTransportFault_debugEn (c : Byte) (s : State) : (raiseTransportFault c s).debugEn = s.debugEn := rfl
@[simp] theorem raiseTransportFault_faulted (c : Byte) (s : State) : (raiseTransportFault c s).faulted = true := rfl
@[simp] theorem raiseTransportFault_faultCause (c : Byte) (s : State) : (raiseTransportFault c s).faultCause = c := rfl
@[simp] theorem raiseTransportFault_srstPending (c : Byte) (s : State) : (raiseTransportFault c s).srstPending = s.srstPending := rfl
@[simp] theorem raiseTransportFault_errLcd (c : Byte) (s : State) : (raiseTransportFault c s).errLcd = s.errLcd := rfl
@[simp] theorem raiseTransportFault_errPb (c : Byte) (s : State) : (raiseTransportFault c s).errPb = s.errPb := rfl
@[simp] theorem raiseTransportFault_mem (c : Byte) (s : State) : (raiseTransportFault c s).mem = s.mem := rfl
@[simp] theorem raiseTransportFault_lcdBusy (c : Byte) (s : State) : (raiseTransportFault c s).lcdBusy = s.lcdBusy := rfl
@[simp] theorem raiseTransportFault_lcdInflightTx (c : Byte) (s : State) : (raiseTransportFault c s).lcdInflightTx = s.lcdInflightTx := rfl
@[simp] theorem raiseTransportFault_pbPending (c : Byte) (s : State) : (raiseTransportFault c s).pbPending = s.pbPending := rfl
@[simp] theorem raiseTransportFault_indHeart (c : Byte) (s : State) : (raiseTransportFault c s).indHeart = s.indHeart := rfl
@[simp] theorem raiseTransportFault_trace (c : Byte) (s : State) : (raiseTransportFault c s).trace = s.trace ++ [.fault c] := rfl
@[simp] theorem raiseTransportFault_env (c : Byte) (s : State) : (raiseTransportFault c s).env = s.env := rfl
@[simp] theorem raiseTransportFault_readData (c : Byte) (s : State) : (raiseTransportFault c s).readData = s.readData := rfl
@[simp] theorem raiseTransportFault_opResult (c : Byte) (s : State) : (raiseTransportFault c s).opResult = s.opResult := rfl

/-! applySoftReset -/

@[simp] theorem applySoftReset_par (s : State) : (applySoftReset s).par = s.par := rfl
@[simp] theorem applySoftReset_ruleset (s : State) : (applySoftReset s).ruleset = s.ruleset := rfl
@[simp] theorem applySoftReset_stateReg (s : State) : (applySoftReset s).stateReg = St.init := rfl
@[simp] theorem applySoftReset_op (s : State) : (applySoftReset s).op = Op.none := rfl
@[simp] theorem applySoftReset_idx (s : State) : (applySoftReset s).idx = 0#8 := rfl
@[simp] theorem applySoftReset_attempt (s : State) : (applySoftReset s).attempt = 0#8 := rfl
@[simp] theorem applySoftReset_pbSynced (s : State) : (applySoftReset s).pbSynced = false := rfl
@[simp] theorem applySoftReset_debugEn (s : State) : (applySoftReset s).debugEn = s.debugEn := rfl
@[simp] theorem applySoftReset_faulted (s : State) : (applySoftReset s).faulted = s.faulted := rfl
@[simp] theorem applySoftReset_faultCause (s : State) : (applySoftReset s).faultCause = s.faultCause := rfl
@[simp] theorem applySoftReset_srstPending (s : State) : (applySoftReset s).srstPending = false := rfl
@[simp] theorem applySoftReset_errLcd (s : State) : (applySoftReset s).errLcd = s.errLcd := rfl
@[simp] theorem applySoftReset_errPb (s : State) : (applySoftReset s).errPb = s.errPb := rfl
@[simp] theorem applySoftReset_mem (s : State) : (applySoftReset s).mem = s.mem := rfl
@[simp] theorem applySoftReset_lcdBusy (s : State) : (applySoftReset s).lcdBusy = s.lcdBusy := rfl
@[simp] theorem applySoftReset_lcdInflightTx (s : State) : (applySoftReset s).lcdInflightTx = s.lcdInflightTx := rfl
@[simp] theorem applySoftReset_pbPending (s : State) : (applySoftReset s).pbPending = s.pbPending := rfl
@[simp] theorem applySoftReset_indHeart (s : State) : (applySoftReset s).indHeart = s.indHeart := rfl
@[simp] theorem applySoftReset_trace (s : State) : (applySoftReset s).trace = s.trace ++ [.srst] := rfl
@[simp] theorem applySoftReset_env (s : State) : (applySoftReset s).env = s.env := rfl
@[simp] theorem applySoftReset_readData (s : State) : (applySoftReset s).readData = s.readData := rfl
@[simp] theorem applySoftReset_opResult (s : State) : (applySoftReset s).opResult = s.opResult := rfl

/-! requestSoftReset -/

@[simp] theorem requestSoftReset_par (s : State) : (requestSoftReset s).par = s.par := rfl
@[simp] theorem requestSoftReset_ruleset (s : State) : (requestSoftReset s).ruleset = s.ruleset := rfl
@[simp] theorem requestSoftReset_stateReg (s : State) : (requestSoftReset s).stateReg = s.stateReg := rfl
@[simp] theorem requestSoftReset_op (s : State) : (requestSoftReset s).op = s.op := rfl
@[simp] theorem requestSoftReset_idx (s : State) : (requestSoftReset s).idx = s.idx := rfl
@[simp] theorem requestSoftReset_attempt (s : State) : (requestSoftReset s).attempt = s.attempt := rfl
@[simp] theorem requestSoftReset_pbSynced (s : State) : (requestSoftReset s).pbSynced = s.pbSynced := rfl
@[simp] theorem requestSoftReset_debugEn (s : State) : (requestSoftReset s).debugEn = s.debugEn := rfl
@[simp] theorem requestSoftReset_faulted (s : State) : (requestSoftReset s).faulted = s.faulted := rfl
@[simp] theorem requestSoftReset_faultCause (s : State) : (requestSoftReset s).faultCause = s.faultCause := rfl
@[simp] theorem requestSoftReset_srstPending (s : State) : (requestSoftReset s).srstPending = true := rfl
@[simp] theorem requestSoftReset_errLcd (s : State) : (requestSoftReset s).errLcd = s.errLcd := rfl
@[simp] theorem requestSoftReset_errPb (s : State) : (requestSoftReset s).errPb = s.errPb := rfl
@[simp] theorem requestSoftReset_mem (s : State) : (requestSoftReset s).mem = s.mem := rfl
@[simp] theorem requestSoftReset_lcdBusy (s : State) : (requestSoftReset s).lcdBusy = s.lcdBusy := rfl
@[simp] theorem requestSoftReset_lcdInflightTx (s : State) : (requestSoftReset s).lcdInflightTx = s.lcdInflightTx := rfl
@[simp] theorem requestSoftReset_pbPending (s : State) : (requestSoftReset s).pbPending = s.pbPending := rfl
@[simp] theorem requestSoftReset_indHeart (s : State) : (requestSoftReset s).indHeart = s.indHeart := rfl
@[simp] theorem requestSoftReset_trace (s : State) : (requestSoftReset s).trace = s.trace := rfl
@[simp] theorem requestSoftReset_env (s : State) : (requestSoftReset s).env = s.env := rfl
@[simp] theorem requestSoftReset_readData (s : State) : (requestSoftReset s).readData = s.readData := rfl
@[simp] theorem requestSoftReset_opResult (s : State) : (requestSoftReset s).opResult = s.opResult := rfl

/-! hostReturns -/

@[simp] theorem hostReturns_par (b : Byte) (s : State) : (hostReturns b s).par = s.par := rfl
@[simp] theorem hostReturns_ruleset (b : Byte) (s : State) : (hostReturns b s).ruleset = s.ruleset := rfl
@[simp] theorem hostReturns_stateReg (b : Byte) (s : State) : (hostReturns b s).stateReg = s.stateReg := rfl
@[simp] theorem hostReturns_op (b : Byte) (s : State) : (hostReturns b s).op = s.op := rfl
@[simp] theorem hostReturns_idx (b : Byte) (s : State) : (hostReturns b s).idx = s.idx := rfl
@[simp] theorem hostReturns_attempt (b : Byte) (s : State) : (hostReturns b s).attempt = s.attempt := rfl
@[simp] theorem hostReturns_pbSynced (b : Byte) (s : State) : (hostReturns b s).pbSynced = s.pbSynced := rfl
@[simp] theorem hostReturns_debugEn (b : Byte) (s : State) : (hostReturns b s).debugEn = s.debugEn := rfl
@[simp] theorem hostReturns_faulted (b : Byte) (s : State) : (hostReturns b s).faulted = s.faulted := rfl
@[simp] theorem hostReturns_faultCause (b : Byte) (s : State) : (hostReturns b s).faultCause = s.faultCause := rfl
@[simp] theorem hostReturns_srstPending (b : Byte) (s : State) : (hostReturns b s).srstPending = s.srstPending := rfl
@[simp] theorem hostReturns_errLcd (b : Byte) (s : State) : (hostReturns b s).errLcd = s.errLcd := rfl
@[simp] theorem hostReturns_errPb (b : Byte) (s : State) : (hostReturns b s).errPb = s.errPb := rfl
@[simp] theorem hostReturns_mem (b : Byte) (s : State) : (hostReturns b s).mem = s.mem := rfl
@[simp] theorem hostReturns_lcdBusy (b : Byte) (s : State) : (hostReturns b s).lcdBusy = s.lcdBusy := rfl
@[simp] theorem hostReturns_lcdInflightTx (b : Byte) (s : State) : (hostReturns b s).lcdInflightTx = s.lcdInflightTx := rfl
@[simp] theorem hostReturns_pbPending (b : Byte) (s : State) : (hostReturns b s).pbPending = s.pbPending := rfl
@[simp] theorem hostReturns_indHeart (b : Byte) (s : State) : (hostReturns b s).indHeart = s.indHeart := rfl
@[simp] theorem hostReturns_trace (b : Byte) (s : State) : (hostReturns b s).trace = s.trace := rfl
@[simp] theorem hostReturns_env (b : Byte) (s : State) : (hostReturns b s).env = s.env := rfl
@[simp] theorem hostReturns_readData (b : Byte) (s : State) : (hostReturns b s).readData = some b := rfl
@[simp] theorem hostReturns_opResult (b : Byte) (s : State) : (hostReturns b s).opResult = s.opResult := rfl

/-! powerOn -/

@[simp] theorem powerOn_par (s : State) : (powerOn s).par = s.par := rfl
@[simp] theorem powerOn_ruleset (s : State) : (powerOn s).ruleset = s.ruleset := rfl
@[simp] theorem powerOn_stateReg (s : State) : (powerOn s).stateReg = St.init := rfl
@[simp] theorem powerOn_op (s : State) : (powerOn s).op = Op.none := rfl
@[simp] theorem powerOn_idx (s : State) : (powerOn s).idx = 0#8 := rfl
@[simp] theorem powerOn_attempt (s : State) : (powerOn s).attempt = 0#8 := rfl
@[simp] theorem powerOn_pbSynced (s : State) : (powerOn s).pbSynced = false := rfl
@[simp] theorem powerOn_debugEn (s : State) : (powerOn s).debugEn = false := rfl
@[simp] theorem powerOn_faulted (s : State) : (powerOn s).faulted = false := rfl
@[simp] theorem powerOn_faultCause (s : State) : (powerOn s).faultCause = 0x00#8 := rfl
@[simp] theorem powerOn_srstPending (s : State) : (powerOn s).srstPending = false := rfl
@[simp] theorem powerOn_errLcd (s : State) : (powerOn s).errLcd = 0x00#8 := rfl
@[simp] theorem powerOn_errPb (s : State) : (powerOn s).errPb = 0x00#8 := rfl
@[simp] theorem powerOn_mem (s : State) : (powerOn s).mem = [] := rfl
@[simp] theorem powerOn_lcdBusy (s : State) : (powerOn s).lcdBusy = false := rfl
@[simp] theorem powerOn_lcdInflightTx (s : State) : (powerOn s).lcdInflightTx = List.replicate s.par.n 0x00#8 := rfl
@[simp] theorem powerOn_pbPending (s : State) : (powerOn s).pbPending = [] := rfl
@[simp] theorem powerOn_indHeart (s : State) : (powerOn s).indHeart = false := rfl
@[simp] theorem powerOn_trace (s : State) : (powerOn s).trace = [] := rfl
@[simp] theorem powerOn_env (s : State) : (powerOn s).env = s.env := rfl
@[simp] theorem powerOn_readData (s : State) : (powerOn s).readData = none := rfl
@[simp] theorem powerOn_opResult (s : State) : (powerOn s).opResult = none := rfl

/-! State.writeByte -/

@[simp] theorem State.writeByte_par (s : State) (a : Nat) (v : Byte) : (s.writeByte a v).par = s.par := rfl
@[simp] theorem State.writeByte_ruleset (s : State) (a : Nat) (v : Byte) : (s.writeByte a v).ruleset = s.ruleset := rfl
@[simp] theorem State.writeByte_stateReg (s : State) (a : Nat) (v : Byte) : (s.writeByte a v).stateReg = s.stateReg := rfl
@[simp] theorem State.writeByte_op (s : State) (a : Nat) (v : Byte) : (s.writeByte a v).op = s.op := rfl
@[simp] theorem State.writeByte_idx (s : State) (a : Nat) (v : Byte) : (s.writeByte a v).idx = s.idx := rfl
@[simp] theorem State.writeByte_attempt (s : State) (a : Nat) (v : Byte) : (s.writeByte a v).attempt = s.attempt := rfl
@[simp] theorem State.writeByte_pbSynced (s : State) (a : Nat) (v : Byte) : (s.writeByte a v).pbSynced = s.pbSynced := rfl
@[simp] theorem State.writeByte_debugEn (s : State) (a : Nat) (v : Byte) : (s.writeByte a v).debugEn = s.debugEn := rfl
@[simp] theorem State.writeByte_faulted (s : State) (a : Nat) (v : Byte) : (s.writeByte a v).faulted = s.faulted := rfl
@[simp] theorem State.writeByte_faultCause (s : State) (a : Nat) (v : Byte) : (s.writeByte a v).faultCause = s.faultCause := rfl
@[simp] theorem State.writeByte_srstPending (s : State) (a : Nat) (v : Byte) : (s.writeByte a v).srstPending = s.srstPending := rfl
@[simp] theorem State.writeByte_errLcd (s : State) (a : Nat) (v : Byte) : (s.writeByte a v).errLcd = s.errLcd := rfl
@[simp] theorem State.writeByte_errPb (s : State) (a : Nat) (v : Byte) : (s.writeByte a v).errPb = s.errPb := rfl
@[simp] theorem State.writeByte_lcdBusy (s : State) (a : Nat) (v : Byte) : (s.writeByte a v).lcdBusy = s.lcdBusy := rfl
@[simp] theorem State.writeByte_lcdInflightTx (s : State) (a : Nat) (v : Byte) : (s.writeByte a v).lcdInflightTx = s.lcdInflightTx := rfl
@[simp] theorem State.writeByte_pbPending (s : State) (a : Nat) (v : Byte) : (s.writeByte a v).pbPending = s.pbPending := rfl
@[simp] theorem State.writeByte_indHeart (s : State) (a : Nat) (v : Byte) : (s.writeByte a v).indHeart = s.indHeart := rfl
@[simp] theorem State.writeByte_trace (s : State) (a : Nat) (v : Byte) : (s.writeByte a v).trace = s.trace := rfl
@[simp] theorem State.writeByte_env (s : State) (a : Nat) (v : Byte) : (s.writeByte a v).env = s.env := rfl
@[simp] theorem State.writeByte_readData (s : State) (a : Nat) (v : Byte) : (s.writeByte a v).readData = s.readData := rfl
@[simp] theorem State.writeByte_opResult (s : State) (a : Nat) (v : Byte) : (s.writeByte a v).opResult = s.opResult := rfl
@[simp] theorem State.writeByte_mem (s : State) (a : Nat) (v : Byte) :
    (s.writeByte a v).mem = memWrite s.par s.mem a v := rfl

/-- A write of a list of bytes is a write of buffer memory and of nothing else. -/
theorem writeBytes_eq (s : State) (a : Nat) (vs : List Byte) :
    s.writeBytes a vs = s.withMem (s.writeBytes a vs).mem := by
  induction vs generalizing s a with
  | nil => rfl
  | cons v vs ih =>
    have h := ih (s.writeByte a v) (a + 1)
    simp only [State.writeBytes]
    rw [h]
    rfl

/-! State.writeBytes, State.writeBuf, State.copyBuf -/

@[simp] theorem State.writeBytes_par (s : State) (a : Nat) (vs : List Byte) : (s.writeBytes a vs).par = s.par := by
  rw [writeBytes_eq]; rfl
@[simp] theorem State.writeBytes_ruleset (s : State) (a : Nat) (vs : List Byte) : (s.writeBytes a vs).ruleset = s.ruleset := by
  rw [writeBytes_eq]; rfl
@[simp] theorem State.writeBytes_stateReg (s : State) (a : Nat) (vs : List Byte) : (s.writeBytes a vs).stateReg = s.stateReg := by
  rw [writeBytes_eq]; rfl
@[simp] theorem State.writeBytes_op (s : State) (a : Nat) (vs : List Byte) : (s.writeBytes a vs).op = s.op := by
  rw [writeBytes_eq]; rfl
@[simp] theorem State.writeBytes_idx (s : State) (a : Nat) (vs : List Byte) : (s.writeBytes a vs).idx = s.idx := by
  rw [writeBytes_eq]; rfl
@[simp] theorem State.writeBytes_attempt (s : State) (a : Nat) (vs : List Byte) : (s.writeBytes a vs).attempt = s.attempt := by
  rw [writeBytes_eq]; rfl
@[simp] theorem State.writeBytes_pbSynced (s : State) (a : Nat) (vs : List Byte) : (s.writeBytes a vs).pbSynced = s.pbSynced := by
  rw [writeBytes_eq]; rfl
@[simp] theorem State.writeBytes_debugEn (s : State) (a : Nat) (vs : List Byte) : (s.writeBytes a vs).debugEn = s.debugEn := by
  rw [writeBytes_eq]; rfl
@[simp] theorem State.writeBytes_faulted (s : State) (a : Nat) (vs : List Byte) : (s.writeBytes a vs).faulted = s.faulted := by
  rw [writeBytes_eq]; rfl
@[simp] theorem State.writeBytes_faultCause (s : State) (a : Nat) (vs : List Byte) : (s.writeBytes a vs).faultCause = s.faultCause := by
  rw [writeBytes_eq]; rfl
@[simp] theorem State.writeBytes_srstPending (s : State) (a : Nat) (vs : List Byte) : (s.writeBytes a vs).srstPending = s.srstPending := by
  rw [writeBytes_eq]; rfl
@[simp] theorem State.writeBytes_errLcd (s : State) (a : Nat) (vs : List Byte) : (s.writeBytes a vs).errLcd = s.errLcd := by
  rw [writeBytes_eq]; rfl
@[simp] theorem State.writeBytes_errPb (s : State) (a : Nat) (vs : List Byte) : (s.writeBytes a vs).errPb = s.errPb := by
  rw [writeBytes_eq]; rfl
@[simp] theorem State.writeBytes_lcdBusy (s : State) (a : Nat) (vs : List Byte) : (s.writeBytes a vs).lcdBusy = s.lcdBusy := by
  rw [writeBytes_eq]; rfl
@[simp] theorem State.writeBytes_lcdInflightTx (s : State) (a : Nat) (vs : List Byte) : (s.writeBytes a vs).lcdInflightTx = s.lcdInflightTx := by
  rw [writeBytes_eq]; rfl
@[simp] theorem State.writeBytes_pbPending (s : State) (a : Nat) (vs : List Byte) : (s.writeBytes a vs).pbPending = s.pbPending := by
  rw [writeBytes_eq]; rfl
@[simp] theorem State.writeBytes_indHeart (s : State) (a : Nat) (vs : List Byte) : (s.writeBytes a vs).indHeart = s.indHeart := by
  rw [writeBytes_eq]; rfl
@[simp] theorem State.writeBytes_trace (s : State) (a : Nat) (vs : List Byte) : (s.writeBytes a vs).trace = s.trace := by
  rw [writeBytes_eq]; rfl
@[simp] theorem State.writeBytes_env (s : State) (a : Nat) (vs : List Byte) : (s.writeBytes a vs).env = s.env := by
  rw [writeBytes_eq]; rfl
@[simp] theorem State.writeBytes_readData (s : State) (a : Nat) (vs : List Byte) : (s.writeBytes a vs).readData = s.readData := by
  rw [writeBytes_eq]; rfl
@[simp] theorem State.writeBytes_opResult (s : State) (a : Nat) (vs : List Byte) : (s.writeBytes a vs).opResult = s.opResult := by
  rw [writeBytes_eq]; rfl
@[simp] theorem State.writeBuf_par (s : State) (b : Buf) (vs : List Byte) : (s.writeBuf b vs).par = s.par :=
  State.writeBytes_par s _ vs
@[simp] theorem State.writeBuf_ruleset (s : State) (b : Buf) (vs : List Byte) : (s.writeBuf b vs).ruleset = s.ruleset :=
  State.writeBytes_ruleset s _ vs
@[simp] theorem State.writeBuf_stateReg (s : State) (b : Buf) (vs : List Byte) : (s.writeBuf b vs).stateReg = s.stateReg :=
  State.writeBytes_stateReg s _ vs
@[simp] theorem State.writeBuf_op (s : State) (b : Buf) (vs : List Byte) : (s.writeBuf b vs).op = s.op :=
  State.writeBytes_op s _ vs
@[simp] theorem State.writeBuf_idx (s : State) (b : Buf) (vs : List Byte) : (s.writeBuf b vs).idx = s.idx :=
  State.writeBytes_idx s _ vs
@[simp] theorem State.writeBuf_attempt (s : State) (b : Buf) (vs : List Byte) : (s.writeBuf b vs).attempt = s.attempt :=
  State.writeBytes_attempt s _ vs
@[simp] theorem State.writeBuf_pbSynced (s : State) (b : Buf) (vs : List Byte) : (s.writeBuf b vs).pbSynced = s.pbSynced :=
  State.writeBytes_pbSynced s _ vs
@[simp] theorem State.writeBuf_debugEn (s : State) (b : Buf) (vs : List Byte) : (s.writeBuf b vs).debugEn = s.debugEn :=
  State.writeBytes_debugEn s _ vs
@[simp] theorem State.writeBuf_faulted (s : State) (b : Buf) (vs : List Byte) : (s.writeBuf b vs).faulted = s.faulted :=
  State.writeBytes_faulted s _ vs
@[simp] theorem State.writeBuf_faultCause (s : State) (b : Buf) (vs : List Byte) : (s.writeBuf b vs).faultCause = s.faultCause :=
  State.writeBytes_faultCause s _ vs
@[simp] theorem State.writeBuf_srstPending (s : State) (b : Buf) (vs : List Byte) : (s.writeBuf b vs).srstPending = s.srstPending :=
  State.writeBytes_srstPending s _ vs
@[simp] theorem State.writeBuf_errLcd (s : State) (b : Buf) (vs : List Byte) : (s.writeBuf b vs).errLcd = s.errLcd :=
  State.writeBytes_errLcd s _ vs
@[simp] theorem State.writeBuf_errPb (s : State) (b : Buf) (vs : List Byte) : (s.writeBuf b vs).errPb = s.errPb :=
  State.writeBytes_errPb s _ vs
@[simp] theorem State.writeBuf_lcdBusy (s : State) (b : Buf) (vs : List Byte) : (s.writeBuf b vs).lcdBusy = s.lcdBusy :=
  State.writeBytes_lcdBusy s _ vs
@[simp] theorem State.writeBuf_lcdInflightTx (s : State) (b : Buf) (vs : List Byte) : (s.writeBuf b vs).lcdInflightTx = s.lcdInflightTx :=
  State.writeBytes_lcdInflightTx s _ vs
@[simp] theorem State.writeBuf_pbPending (s : State) (b : Buf) (vs : List Byte) : (s.writeBuf b vs).pbPending = s.pbPending :=
  State.writeBytes_pbPending s _ vs
@[simp] theorem State.writeBuf_indHeart (s : State) (b : Buf) (vs : List Byte) : (s.writeBuf b vs).indHeart = s.indHeart :=
  State.writeBytes_indHeart s _ vs
@[simp] theorem State.writeBuf_trace (s : State) (b : Buf) (vs : List Byte) : (s.writeBuf b vs).trace = s.trace :=
  State.writeBytes_trace s _ vs
@[simp] theorem State.writeBuf_env (s : State) (b : Buf) (vs : List Byte) : (s.writeBuf b vs).env = s.env :=
  State.writeBytes_env s _ vs
@[simp] theorem State.writeBuf_readData (s : State) (b : Buf) (vs : List Byte) : (s.writeBuf b vs).readData = s.readData :=
  State.writeBytes_readData s _ vs
@[simp] theorem State.writeBuf_opResult (s : State) (b : Buf) (vs : List Byte) : (s.writeBuf b vs).opResult = s.opResult :=
  State.writeBytes_opResult s _ vs
@[simp] theorem State.copyBuf_par (s : State) (b c : Buf) : (s.copyBuf b c).par = s.par :=
  State.writeBuf_par s _ _
@[simp] theorem State.copyBuf_ruleset (s : State) (b c : Buf) : (s.copyBuf b c).ruleset = s.ruleset :=
  State.writeBuf_ruleset s _ _
@[simp] theorem State.copyBuf_stateReg (s : State) (b c : Buf) : (s.copyBuf b c).stateReg = s.stateReg :=
  State.writeBuf_stateReg s _ _
@[simp] theorem State.copyBuf_op (s : State) (b c : Buf) : (s.copyBuf b c).op = s.op :=
  State.writeBuf_op s _ _
@[simp] theorem State.copyBuf_idx (s : State) (b c : Buf) : (s.copyBuf b c).idx = s.idx :=
  State.writeBuf_idx s _ _
@[simp] theorem State.copyBuf_attempt (s : State) (b c : Buf) : (s.copyBuf b c).attempt = s.attempt :=
  State.writeBuf_attempt s _ _
@[simp] theorem State.copyBuf_pbSynced (s : State) (b c : Buf) : (s.copyBuf b c).pbSynced = s.pbSynced :=
  State.writeBuf_pbSynced s _ _
@[simp] theorem State.copyBuf_debugEn (s : State) (b c : Buf) : (s.copyBuf b c).debugEn = s.debugEn :=
  State.writeBuf_debugEn s _ _
@[simp] theorem State.copyBuf_faulted (s : State) (b c : Buf) : (s.copyBuf b c).faulted = s.faulted :=
  State.writeBuf_faulted s _ _
@[simp] theorem State.copyBuf_faultCause (s : State) (b c : Buf) : (s.copyBuf b c).faultCause = s.faultCause :=
  State.writeBuf_faultCause s _ _
@[simp] theorem State.copyBuf_srstPending (s : State) (b c : Buf) : (s.copyBuf b c).srstPending = s.srstPending :=
  State.writeBuf_srstPending s _ _
@[simp] theorem State.copyBuf_errLcd (s : State) (b c : Buf) : (s.copyBuf b c).errLcd = s.errLcd :=
  State.writeBuf_errLcd s _ _
@[simp] theorem State.copyBuf_errPb (s : State) (b c : Buf) : (s.copyBuf b c).errPb = s.errPb :=
  State.writeBuf_errPb s _ _
@[simp] theorem State.copyBuf_lcdBusy (s : State) (b c : Buf) : (s.copyBuf b c).lcdBusy = s.lcdBusy :=
  State.writeBuf_lcdBusy s _ _
@[simp] theorem State.copyBuf_lcdInflightTx (s : State) (b c : Buf) : (s.copyBuf b c).lcdInflightTx = s.lcdInflightTx :=
  State.writeBuf_lcdInflightTx s _ _
@[simp] theorem State.copyBuf_pbPending (s : State) (b c : Buf) : (s.copyBuf b c).pbPending = s.pbPending :=
  State.writeBuf_pbPending s _ _
@[simp] theorem State.copyBuf_indHeart (s : State) (b c : Buf) : (s.copyBuf b c).indHeart = s.indHeart :=
  State.writeBuf_indHeart s _ _
@[simp] theorem State.copyBuf_trace (s : State) (b c : Buf) : (s.copyBuf b c).trace = s.trace :=
  State.writeBuf_trace s _ _
@[simp] theorem State.copyBuf_env (s : State) (b c : Buf) : (s.copyBuf b c).env = s.env :=
  State.writeBuf_env s _ _
@[simp] theorem State.copyBuf_readData (s : State) (b c : Buf) : (s.copyBuf b c).readData = s.readData :=
  State.writeBuf_readData s _ _
@[simp] theorem State.copyBuf_opResult (s : State) (b c : Buf) : (s.copyBuf b c).opResult = s.opResult :=
  State.writeBuf_opResult s _ _

end Sys2Proof.Machine
end

