-- ==== Sys2Proof/Laws/Memory.lean ====
section
/-! SUPPORT. Laws of cell lists and of buffer memory: read after write, and that every write keeps the canonical form. -/

namespace Sys2Proof.Machine

/-! Cell lists. -/

@[simp] theorem cellsLookup_nil (a : Nat) : cellsLookup [] a = none := rfl

theorem cellsLookup_insert (cs : List Host.Cell) (a x : Nat) (v : Byte) :
    cellsLookup (cellsInsert a v cs) x = if a = x then some v else cellsLookup cs x := by
  induction cs with
  | nil => simp [cellsInsert, cellsLookup]
  | cons c cs ih =>
    obtain ⟨k, w⟩ := c
    simp only [cellsInsert]
    split
    · simp [cellsLookup]
    · split
      · rename_i h; subst h; by_cases hx : a = x <;> simp [cellsLookup, hx]
      · rename_i h
        simp only [cellsLookup, ih]
        by_cases hx : k = x
        · have : a ≠ x := by omega
          simp [hx, this]
        · simp [hx]

@[simp] theorem cellsLookup_insert_same (cs : List Host.Cell) (a : Nat) (v : Byte) :
    cellsLookup (cellsInsert a v cs) a = some v := by simp [cellsLookup_insert]

theorem cellsLookup_erase (cs : List Host.Cell) (a x : Nat) :
    cellsLookup (cellsErase a cs) x = if a = x then none else cellsLookup cs x := by
  induction cs with
  | nil => simp [cellsErase]
  | cons c cs ih =>
    obtain ⟨k, w⟩ := c
    unfold cellsErase at ih ⊢
    by_cases hk : k = a
    · subst hk
      by_cases hx : k = x
      · simp_all
      · simp_all [cellsLookup]
    · by_cases hx : k = x
      · have : a ≠ x := by omega
        simp_all [cellsLookup]
      · simp_all [cellsLookup]

theorem cellsRisingFrom_weaken {lo lo' : Nat} (h : lo' ≤ lo) (cs : List Host.Cell)
    (hr : cellsRisingFrom (some lo) cs = true) : cellsRisingFrom (some lo') cs = true := by
  cases cs with
  | nil => rfl
  | cons c cs =>
    simp only [cellsRisingFrom, Bool.and_eq_true, decide_eq_true_eq] at hr ⊢
    exact ⟨by omega, hr.2⟩

theorem cellsRisingFrom_insert (cs : List Host.Cell) (lo a : Nat) (v : Byte) (hlo : lo < a)
    (hr : cellsRisingFrom (some lo) cs = true) : cellsRisingFrom (some lo) (cellsInsert a v cs) = true := by
  induction cs generalizing lo with
  | nil => simp [cellsInsert, cellsRisingFrom, hlo]
  | cons c cs ih =>
    obtain ⟨k, w⟩ := c
    simp only [cellsRisingFrom, Bool.and_eq_true, decide_eq_true_eq] at hr
    simp only [cellsInsert]
    split
    · rename_i h
      simp [cellsRisingFrom, hlo, h, hr.2]
    · split
      · rename_i h; subst h; simp [cellsRisingFrom, hr.1, hr.2]
      · simp only [cellsRisingFrom, Bool.and_eq_true, decide_eq_true_eq]
        exact ⟨hr.1, ih k (by omega) hr.2⟩

theorem cellsRising_insert (cs : List Host.Cell) (a : Nat) (v : Byte) (hr : cellsRising cs = true) :
    cellsRising (cellsInsert a v cs) = true := by
  cases cs with
  | nil => rfl
  | cons c cs =>
    obtain ⟨k, w⟩ := c
    have hr' : cellsRisingFrom (some k) cs = true := hr
    simp only [cellsInsert]
    split
    · rename_i h; simp [cellsRising, cellsRisingFrom, h, hr']
    · split
      · rename_i h; subst h; exact hr'
      · exact cellsRisingFrom_insert cs k a v (by omega) hr'

theorem cellsRisingFrom_erase (cs : List Host.Cell) (lo a : Nat)
    (hr : cellsRisingFrom (some lo) cs = true) : cellsRisingFrom (some lo) (cellsErase a cs) = true := by
  induction cs generalizing lo with
  | nil => rfl
  | cons c cs ih =>
    obtain ⟨k, w⟩ := c
    simp only [cellsRisingFrom, Bool.and_eq_true, decide_eq_true_eq] at hr
    by_cases hk : k = a
    · have : cellsErase a ((k, w) :: cs) = cellsErase a cs := by simp [cellsErase, hk]
      rw [this]
      exact cellsRisingFrom_weaken (by omega) _ (ih k hr.2)
    · have : cellsErase a ((k, w) :: cs) = (k, w) :: cellsErase a cs := by simp [cellsErase, hk]
      rw [this]
      simp only [cellsRisingFrom, Bool.and_eq_true, decide_eq_true_eq]
      exact ⟨hr.1, ih k hr.2⟩

theorem cellsRising_erase (cs : List Host.Cell) (a : Nat) (hr : cellsRising cs = true) :
    cellsRising (cellsErase a cs) = true := by
  cases cs with
  | nil => rfl
  | cons c cs =>
    obtain ⟨k, w⟩ := c
    have hr' : cellsRisingFrom (some k) cs = true := hr
    by_cases hk : k = a
    · have h1 : cellsErase a ((k, w) :: cs) = cellsErase a cs := by simp [cellsErase, hk]
      rw [h1]
      have h2 := cellsRisingFrom_erase cs k a hr'
      cases h : cellsErase a cs with
      | nil => rfl
      | cons d ds =>
        rw [h] at h2
        simp only [cellsRisingFrom, Bool.and_eq_true] at h2
        exact h2.2
    · have h1 : cellsErase a ((k, w) :: cs) = (k, w) :: cellsErase a cs := by simp [cellsErase, hk]
      rw [h1]
      exact cellsRisingFrom_erase cs k a hr'

theorem cellsInsert_all (P : Host.Cell → Bool) (cs : List Host.Cell) (a : Nat) (v : Byte) (hv : P (a, v) = true)
    (h : cs.all P = true) : (cellsInsert a v cs).all P = true := by
  induction cs with
  | nil => simp [cellsInsert, hv]
  | cons c cs ih =>
    obtain ⟨k, w⟩ := c
    simp only [List.all_cons, Bool.and_eq_true] at h
    simp only [cellsInsert]
    split
    · simp [hv, h.1, h.2]
    · split
      · simp [hv, h.2]
      · simp [h.1, ih h.2]

theorem cellsErase_all (P : Host.Cell → Bool) (cs : List Host.Cell) (a : Nat) (h : cs.all P = true) :
    (cellsErase a cs).all P = true := by
  simp only [cellsErase, List.all_eq_true, List.mem_filter] at h ⊢
  exact fun c hc => h c hc.1

/-! Buffer memory. -/

/-- Every write keeps the canonical form. -/
theorem memWrite_wf (p : Params) (m : List Host.Cell) (a : Nat) (v : Byte) (ha : a < memSize p)
    (h : Memory.wf p m = true) : Memory.wf p (memWrite p m a v) = true := by
  simp only [Memory.wf, Bool.and_eq_true] at h ⊢
  unfold memWrite
  split
  · exact ⟨cellsRising_erase m a h.1, cellsErase_all _ m a h.2⟩
  · rename_i hv
    exact ⟨cellsRising_insert m a v h.1, cellsInsert_all _ m a v (by simp [ha, hv]) h.2⟩

theorem writeByte_wf (s : State) (a : Nat) (v : Byte) (ha : a < memSize s.par)
    (h : Memory.wf s.par s.mem = true) : Memory.wf s.par (s.writeByte a v).mem = true :=
  memWrite_wf s.par s.mem a v ha h

/-- Read after write, of any address. -/
theorem byteAt_writeByte (s : State) (a x : Nat) (v : Byte) :
    (s.writeByte a v).byteAt x = if a = x then v else s.byteAt x := by
  simp only [State.byteAt, State.writeByte, memWrite, State.withMem_mem, State.withMem_par]
  split
  · rename_i h
    by_cases hx : a = x
    · subst hx; simp [cellsLookup_erase, h]
    · simp [cellsLookup_erase, hx]
  · by_cases hx : a = x <;> simp [cellsLookup_insert, hx]

/-- Read after a write of a list of bytes. -/
theorem byteAt_writeBytes (s : State) (a x : Nat) (vs : List Byte) :
    (s.writeBytes a vs).byteAt x =
      if a ≤ x ∧ x < a + vs.length then vs.getD (x - a) 0x00#8 else s.byteAt x := by
  induction vs generalizing s a with
  | nil => rw [if_neg (by simp only [List.length_nil]; omega)]; rfl
  | cons v vs ih =>
    rw [State.writeBytes, ih, byteAt_writeByte, List.length_cons]
    by_cases h1 : a = x
    · subst h1
      rw [if_neg (by omega), if_pos rfl, if_pos (by omega)]
      simp
    · by_cases h2 : a + 1 ≤ x ∧ x < a + 1 + vs.length
      · have h4 : x - a = (x - (a + 1)) + 1 := by omega
        rw [if_pos h2, if_pos (by omega), h4, List.getD_cons_succ]
      · rw [if_neg h2, if_neg h1, if_neg (by omega)]

theorem writeBytes_wf (s : State) (a : Nat) (vs : List Byte) (ha : a + vs.length ≤ memSize s.par)
    (h : Memory.wf s.par s.mem = true) : Memory.wf s.par (s.writeBytes a vs).mem = true := by
  induction vs generalizing s a with
  | nil => exact h
  | cons v vs ih =>
    simp only [List.length_cons] at ha
    exact ih (s.writeByte a v) (a + 1) (by simp only [State.writeByte, State.withMem_par]; omega)
      (writeByte_wf s a v (by omega) h)

end Sys2Proof.Machine

namespace Sys2Proof

/-! What a parameter set guarantees. -/

theorem Params.n_ge (p : Params) : 2 ≤ p.n := by
  have h := p.ok
  simp only [RawParams.legal, RawParams.sizeOk, Bool.and_eq_true, decide_eq_true_eq] at h
  exact h.1.1.1.1.1.1.1

theorem Params.n_le (p : Params) : p.n ≤ 255 := by
  have h := p.ok
  simp only [RawParams.legal, RawParams.sizeOk, Bool.and_eq_true, decide_eq_true_eq] at h
  exact h.1.1.1.1.1.1.2

theorem Params.marker_ne (p : Params) : p.markerLcd ≠ p.markerPb := by
  have h := p.ok
  simp only [RawParams.legal, RawParams.markersOk, Bool.and_eq_true, bne_iff_ne] at h
  exact h.1.1.1.1.1.2

theorem Params.attempts_range (p : Params) : 1 ≤ p.maxAttempts ∧ p.maxAttempts ≤ 255 := by
  have h := p.ok
  simp only [RawParams.legal, RawParams.attemptsOk, Bool.and_eq_true, decide_eq_true_eq] at h
  exact h.1.1.1.2

end Sys2Proof

namespace Sys2Proof.Machine

theorem stated_mem {α β : Type} [DecidableEq α] {a : α} {l : List (α × β)} {b : β} (h : stated a l = some b) :
    ∃ k, (k, b) ∈ l := by
  induction l with
  | nil => simp [stated] at h
  | cons e l ih =>
    obtain ⟨k, v⟩ := e
    simp only [stated] at h
    split at h
    · cases h; exact ⟨k, by simp⟩
    · obtain ⟨k', hk⟩ := ih h
      exact ⟨k', by simp [hk]⟩

/-- HOOK gives `N` bytes (00 R17). -/
theorem hook_length (p : Params) (dir : Dir) (r : Ruleset) (f : List Byte) : (hook p dir r f).length = p.n := by
  unfold hook
  split
  · rename_i g hg
    obtain ⟨k, hk⟩ := stated_mem hg
    have h := p.ok
    simp only [RawParams.legal, RawParams.hookOk, Bool.and_eq_true, List.all_eq_true, beq_iff_eq] at h
    exact h.1.1.2 (k, g) hk
  · simp

/-- An index DBG_MAP gives is a payload byte's (00 R18). -/
theorem dbgMap_range (p : Params) (c : Byte) (j : Nat) (hj : dbgMap p c = some j) : 1 ≤ j ∧ j + 2 ≤ p.n := by
  obtain ⟨k, hk⟩ := stated_mem hj
  have h := p.ok
  simp only [RawParams.legal, RawParams.mapOk, Bool.and_eq_true, List.all_eq_true, decide_eq_true_eq] at h
  exact h.2 (k, j) hk

@[simp] theorem memRead_length (s : State) (a n : Nat) : (s.memRead a n).length = n := by simp [State.memRead]

@[simp] theorem readBuf_length (s : State) (b : Buf) : (s.readBuf b).length = s.par.n := by simp [State.readBuf]

@[simp] theorem fillBytes_length (block k n : Nat) (g : List Byte) : (fillBytes block k n g).length = n := by
  simp [fillBytes]

/-- A list already long enough is not filled. -/
theorem fillBytes_of_length (block k n : Nat) (g : List Byte) (h : g.length = n) : fillBytes block k n g = g := by
  subst h
  apply List.ext_getElem
  · simp
  · intro i h1 h2
    simp [fillBytes, h2]

theorem memRead_getD (s : State) (a n i : Nat) (h : i < n) : (s.memRead a n).getD i 0x00#8 = s.byteAt (a + i) := by
  simp [State.memRead, h]

theorem readBuf_getD (s : State) (b : Buf) (i : Nat) (h : i < s.par.n) :
    (s.readBuf b).getD i 0x00#8 = s.bufByte b i := memRead_getD s _ _ i h

/-- A buffer lies inside buffer memory (20 R40). -/
theorem base_le (p : Params) (b : Buf) : Buf.base p b + p.n ≤ memSize p := by
  cases b <;> simp [Buf.base, memSize] <;> omega

/-- Two buffers do not overlap (20 R40). -/
theorem base_disjoint (p : Params) (b c : Buf) (h : b ≠ c) (i j : Nat) (hi : i < p.n) (hj : j < p.n) :
    Buf.base p b + i ≠ Buf.base p c + j := by
  cases b <;> cases c <;> simp [Buf.base] at h ⊢ <;> omega

/-- Reading back a buffer just written. -/
theorem readBuf_writeBuf_same (s : State) (b : Buf) (v : List Byte) (hv : v.length = s.par.n) :
    (s.writeBuf b v).readBuf b = v := by
  apply List.ext_getElem
  · simp [hv]
  · intro i h1 h2
    simp only [State.readBuf, State.memRead, State.base, List.getElem_map, List.getElem_range, State.writeBuf,
      byteAt_writeBytes, State.writeBytes_par]
    rw [if_pos (by omega)]
    simp [h2]

/-- Writing a buffer leaves every other buffer. -/
theorem readBuf_writeBuf_other (s : State) (b c : Buf) (h : b ≠ c) (v : List Byte) (hv : v.length = s.par.n) :
    (s.writeBuf b v).readBuf c = s.readBuf c := by
  apply List.ext_getElem
  · simp
  · intro i h1 h2
    simp only [readBuf_length] at h2
    simp only [State.readBuf, State.memRead, State.base, List.getElem_map, List.getElem_range, State.writeBuf,
      byteAt_writeBytes, State.writeBytes_par]
    rw [if_neg]
    rintro ⟨h3, h4⟩
    exact base_disjoint s.par b c h (Buf.base s.par c + i - Buf.base s.par b) i (by omega) h2 (by omega)

/-- A copy leaves in its destination what its source held (40 R78), the source itself included. -/
theorem readBuf_copyBuf_dst (s : State) (src dst : Buf) : (s.copyBuf src dst).readBuf dst = s.readBuf src :=
  readBuf_writeBuf_same s dst _ (by simp)

/-- A copy leaves every buffer but its destination (40 R78). -/
theorem readBuf_copyBuf_other (s : State) (src dst c : Buf) (h : dst ≠ c) :
    (s.copyBuf src dst).readBuf c = s.readBuf c :=
  readBuf_writeBuf_other s dst c h _ (by simp)

/-! Reads depend on memory and the parameters alone. -/

theorem byteAt_congr {s t : State} (hm : t.mem = s.mem) (hp : t.par = s.par) (a : Nat) : t.byteAt a = s.byteAt a := by
  simp [State.byteAt, hm, hp]

theorem bufByte_congr {s t : State} (hm : t.mem = s.mem) (hp : t.par = s.par) (b : Buf) (i : Nat) :
    t.bufByte b i = s.bufByte b i := by
  simp [State.bufByte, State.base, hp, byteAt_congr hm hp]

theorem readBuf_congr {s t : State} (hm : t.mem = s.mem) (hp : t.par = s.par) (b : Buf) : t.readBuf b = s.readBuf b := by
  simp [State.readBuf, State.memRead, State.base, hp, byteAt_congr hm hp]

theorem slot_congr {s t : State} (h : t.pbPending = s.pbPending) (i : Nat) : t.slot i = s.slot i := by
  simp [State.slot, h]

/-- Two states agree on a buffer when they agree on each of its bytes. -/
theorem readBuf_eq_of_bytes {s t : State} (hp : t.par = s.par) (b : Buf)
    (h : ∀ i, i < s.par.n → t.byteAt (s.base b + i) = s.byteAt (s.base b + i)) : t.readBuf b = s.readBuf b := by
  simp only [State.readBuf, State.memRead, State.base, hp]
  exact List.map_congr_left fun i hi => h i (List.mem_range.mp hi)

/-- A byte outside a buffer is left by a write of that buffer. -/
theorem byteAt_writeBuf_outside (s : State) (b : Buf) (v : List Byte) (hv : v.length = s.par.n) (a : Nat)
    (ha : ¬ (s.base b ≤ a ∧ a < s.base b + s.par.n)) : (s.writeBuf b v).byteAt a = s.byteAt a := by
  rw [State.writeBuf, byteAt_writeBytes, if_neg]
  rw [hv]
  exact ha

theorem byteAt_copyBuf_outside (s : State) (src dst : Buf) (a : Nat)
    (ha : ¬ (s.base dst ≤ a ∧ a < s.base dst + s.par.n)) : (s.copyBuf src dst).byteAt a = s.byteAt a :=
  byteAt_writeBuf_outside s dst _ (by simp) a ha

theorem bufByte_writeByte_base (s : State) (b : Buf) (v : Byte) : (s.writeByte (s.base b) v).bufByte b 0 = v := by
  simp [State.bufByte, byteAt_writeByte, State.base]

/-- The tail written behind byte 0 gives the frame of byte 0 and the tail (42 R95). -/
theorem readBuf_writeTail (s : State) (rx : List Byte) (hl : rx.length = s.par.n - 1) :
    (s.writeBytes (s.base .lcdRx + 1) rx).readBuf .lcdRx = s.bufByte .lcdRx 0 :: rx := by
  have := s.par.n_ge
  apply List.ext_getElem
  · simp [hl]
    omega
  · intro i h1 h2
    simp only [State.readBuf, State.memRead, State.base, List.getElem_map, List.getElem_range, byteAt_writeBytes,
      State.writeBytes_par]
    cases i with
    | zero => rw [if_neg (by omega)]; rfl
    | succ i =>
      simp only [List.length_cons] at h2
      rw [if_pos (by omega)]
      have : Buf.base s.par .lcdRx + (i + 1) - (Buf.base s.par .lcdRx + 1) = i := by omega
      have h3 : i < rx.length := by omega
      simp [this, h3]

/-- A buffer of a state whose memory lists nothing reads as its template (00 R8, 10 R33). -/
theorem readBuf_of_mem_nil (s : State) (h : s.mem = []) (b : Buf) :
    s.readBuf b = match b with
      | .lcdTx => s.par.tplLcdTx
      | .lcdRx => s.par.tplLcdRx
      | .pbTx => s.par.tplPbTx
      | .pbRx => s.par.tplPbRx := by
  have ht := s.par.ok
  simp only [RawParams.legal, RawParams.templatesOk, Bool.and_eq_true, beq_iff_eq] at ht
  obtain ⟨⟨⟨⟨⟨-, ⟨⟨h1, h2⟩, h3⟩, h4⟩, -⟩, -⟩, -⟩, -⟩ := ht
  apply List.ext_getElem
  · cases b <;> simp [h1, h2, h3, h4]
  · intro i hr _
    have hi : i < s.par.n := by simpa using hr
    simp only [State.readBuf, State.memRead, State.base, List.getElem_map, List.getElem_range, State.byteAt, h,
      cellsLookup_nil, Option.getD_none, background]
    cases b <;> simp only [Buf.base, Nat.zero_add, List.getD_eq_getElem?_getD, List.getElem?_append, List.length_append]
    · rw [if_pos (by omega), if_pos (by omega), if_pos (by omega)]
      simp [h1, hi]
    · rw [if_pos (by omega), if_pos (by omega), if_neg (by omega)]
      have : s.par.n + i - s.par.tplLcdTx.length = i := by omega
      have hx := List.getElem?_eq_getElem (show i < _ from h2 ▸ hi)
      simp [this, hx]
    · rw [if_pos (by omega), if_neg (by omega)]
      have : 2 * s.par.n + i - (s.par.tplLcdTx.length + s.par.tplLcdRx.length) = i := by omega
      have hx := List.getElem?_eq_getElem (show i < _ from h3 ▸ hi)
      simp [this, hx]
    · rw [if_neg (by omega)]
      have : 3 * s.par.n + i - (s.par.tplLcdTx.length + s.par.tplLcdRx.length + s.par.tplPbTx.length) = i := by omega
      have hx := List.getElem?_eq_getElem (show i < _ from h4 ▸ hi)
      simp [this, hx]

end Sys2Proof.Machine
end

