-- ==== Sys2Proof/Laws/Ops.lean ====
section
/-! SUPPORT. What each shared operation can do, said once: the spec lemma of every draw, transaction and strategy, and
the fields each leaves alone. -/

namespace Sys2Proof.Machine

/-! Draws. -/

theorem takeWire_length {n : Nat} {ws : List Wire} {got : List Byte} {rest : List Wire}
    (h : takeWire n ws = .bytes got rest) : got.length = n := by
  induction n generalizing ws got rest with
  | zero => simp only [takeWire, Taken.bytes.injEq] at h; simp [← h.1]
  | succ n ih =>
    cases ws with
    | nil => simp [takeWire] at h
    | cons w ws =>
      cases w with
      | fail => simp [takeWire] at h
      | quiet => simp [takeWire] at h
      | byte b =>
        simp only [takeWire] at h
        cases hq : takeWire n ws with
        | bytes g r =>
          rw [hq] at h
          simp only [Taken.cons, Taken.bytes.injEq] at h
          simp [← h.1, ih hq]
        | fail r => rw [hq] at h; simp [Taken.cons] at h
        | quiet r => rw [hq] at h; simp [Taken.cons] at h
        | short g => rw [hq] at h; simp [Taken.cons] at h

/-- Bytes the LCD clocks are the next of its stream. -/
theorem takeWire_bytes (bs : List Byte) (rest : List Wire) :
    takeWire bs.length (bs.map Wire.byte ++ rest) = .bytes bs rest := by
  induction bs with
  | nil => rfl
  | cons b bs ih => simp [takeWire, ih, Taken.cons]

/-- An LCD answer carries as many bytes as were asked for (41 R80). -/
theorem lcdDraw_length {block n : Nat} {e e' : Env} {rx : List Byte} (h : lcdDraw block n e = (.ok rx, e')) :
    rx.length = n := by
  unfold lcdDraw at h
  split at h
  · rename_i hq
    simp only [Prod.mk.injEq, LcdAnswer.ok.injEq] at h
    rw [← h.1]; exact takeWire_length hq
  · simp at h
  · simp at h
  · split at h
    · simp at h
    · simp at h
    · simp only [Prod.mk.injEq, LcdAnswer.ok.injEq] at h
      rw [← h.1]; simp

/-- Scripted LCD bytes are what a transaction receives. -/
theorem lcdDraw_bytes (block : Nat) (e : Env) (bs : List Byte) (rest : List Wire)
    (h : e.lcdStream = bs.map Wire.byte ++ rest) :
    lcdDraw block bs.length e = (.ok bs, { e with lcdStream := rest }.tick) := by
  simp [lcdDraw, h, takeWire_bytes]

theorem pbDraw_cons (block : Nat) (e : Env) (r : PbReply) (rest : List PbReply) (h : e.pbStream = r :: rest) :
    pbDraw block e = (r, { e with pbStream := rest }.tick) := by
  simp [pbDraw, h]

theorem startDraw_cons (block : Nat) (e : Env) (r : Status) (rest : List Status) (h : e.starts = r :: rest) :
    startDraw block e = (r, { e with starts := rest }.tick) := by
  simp [startDraw, h]

/-- END's bytes are `N` (41 R88). -/
theorem doneDraw_length {block n : Nat} {e e' : Env} {rx : List Byte} (h : doneDraw block n e = (.done rx, e')) :
    rx.length = n := by
  unfold doneDraw at h
  split at h
  · simp only [Prod.mk.injEq, Completion.done.injEq] at h
    rw [← h.1]; simp
  · simp at h
  · split at h
    · simp only [Prod.mk.injEq, Completion.done.injEq] at h
      rw [← h.1]; simp
    · simp at h

theorem doneDraw_done (block : Nat) (e : Env) (rx : List Byte) (rest : List Completion)
    (h : e.dones = .done rx :: rest) :
    doneDraw block rx.length e = (.done rx, { e with dones := rest }.tick) := by
  simp [doneDraw, h, fillBytes_of_length]

/-! Transactions. -/

/-- Everything a synchronous LCD transaction can do: hold with only the environment moved, fail with the fault entered
and no byte written, or receive as many bytes as it sends (41 R80 to R82). -/
theorem lcdXfer_cases (kind : XferKind) (tx : List Byte) (s : State) :
    (∃ e, lcdXfer kind tx s = .held (s.withEnv e)) ∨
    (s.lcdBusy = false ∧ ∃ e, lcdXfer kind tx s =
      .failed (raiseTransportFault (faultCode .lcd kind) ((s.withEnv e).emit (.xfer .lcd kind tx .fail none)))) ∨
    (s.lcdBusy = false ∧ ∃ e rx, rx.length = tx.length ∧ lcdXfer kind tx s =
      .done rx ((s.withEnv e).emit (.xfer .lcd kind tx .ok (some rx)))) := by
  unfold lcdXfer
  split
  · exact .inl ⟨s.env, rfl⟩
  · rename_i hb
    simp only [Bool.not_eq_true] at hb
    split
    · rename_i e _; exact .inl ⟨e, rfl⟩
    · rename_i e _; exact .inr (.inl ⟨hb, e, rfl⟩)
    · rename_i rx e hq
      exact .inr (.inr ⟨hb, e, rx, lcdDraw_length hq, rfl⟩)

/-- Everything a PB transaction can do: fail, or receive one byte; it never holds (41 R83). -/
theorem pbXfer_cases (kind : XferKind) (tx : Byte) (s : State) :
    (∃ e, pbXfer kind tx s =
      .failed (raiseTransportFault (faultCode .pb kind) ((s.withEnv e).emit (.xfer .pb kind [tx] .fail none)))) ∨
    (∃ e b, pbXfer kind tx s = .done b ((s.withEnv e).emit (.xfer .pb kind [tx] .ok (some [b])))) := by
  unfold pbXfer
  split
  · rename_i e _; exact .inl ⟨e, rfl⟩
  · rename_i b e _; exact .inr ⟨e, b, rfl⟩

@[simp] theorem Xfer.andThen_done {α : Type} (a : α) (s : State) (k : α → State → State) :
    (Xfer.done a s).andThen k = k a s := rfl
@[simp] theorem Xfer.andThen_held {α : Type} (s : State) (k : α → State → State) :
    (Xfer.held (α := α) s).andThen k = s := rfl
@[simp] theorem Xfer.andThen_failed {α : Type} (s : State) (k : α → State → State) :
    (Xfer.failed (α := α) s).andThen k = s := rfl

/-! Landing. -/

@[simp] theorem landPending_par (i : Nat) (p : Byte) (s : State) : (landPending i p s).par = s.par := by
  simp [landPending]
@[simp] theorem landPending_ruleset (i : Nat) (p : Byte) (s : State) : (landPending i p s).ruleset = s.ruleset := by
  simp [landPending]
@[simp] theorem landPending_stateReg (i : Nat) (p : Byte) (s : State) : (landPending i p s).stateReg = s.stateReg := by
  simp [landPending]
@[simp] theorem landPending_op (i : Nat) (p : Byte) (s : State) : (landPending i p s).op = s.op := by
  simp [landPending]
@[simp] theorem landPending_idx (i : Nat) (p : Byte) (s : State) : (landPending i p s).idx = s.idx := by
  simp [landPending]
@[simp] theorem landPending_attempt (i : Nat) (p : Byte) (s : State) : (landPending i p s).attempt = s.attempt := by
  simp [landPending]
@[simp] theorem landPending_pbSynced (i : Nat) (p : Byte) (s : State) : (landPending i p s).pbSynced = s.pbSynced := by
  simp [landPending]
@[simp] theorem landPending_debugEn (i : Nat) (p : Byte) (s : State) : (landPending i p s).debugEn = s.debugEn := by
  simp [landPending]
@[simp] theorem landPending_faulted (i : Nat) (p : Byte) (s : State) : (landPending i p s).faulted = s.faulted := by
  simp [landPending]
@[simp] theorem landPending_faultCause (i : Nat) (p : Byte) (s : State) : (landPending i p s).faultCause = s.faultCause := by
  simp [landPending]
@[simp] theorem landPending_srstPending (i : Nat) (p : Byte) (s : State) : (landPending i p s).srstPending = s.srstPending := by
  simp [landPending]
@[simp] theorem landPending_errLcd (i : Nat) (p : Byte) (s : State) : (landPending i p s).errLcd = s.errLcd := by
  simp [landPending]
@[simp] theorem landPending_errPb (i : Nat) (p : Byte) (s : State) : (landPending i p s).errPb = s.errPb := by
  simp [landPending]
@[simp] theorem landPending_lcdBusy (i : Nat) (p : Byte) (s : State) : (landPending i p s).lcdBusy = s.lcdBusy := by
  simp [landPending]
@[simp] theorem landPending_lcdInflightTx (i : Nat) (p : Byte) (s : State) : (landPending i p s).lcdInflightTx = s.lcdInflightTx := by
  simp [landPending]
@[simp] theorem landPending_pbPending (i : Nat) (p : Byte) (s : State) : (landPending i p s).pbPending = s.pbPending := by
  simp [landPending]
@[simp] theorem landPending_indHeart (i : Nat) (p : Byte) (s : State) : (landPending i p s).indHeart = s.indHeart := by
  simp [landPending]
@[simp] theorem landPending_env (i : Nat) (p : Byte) (s : State) : (landPending i p s).env = s.env := by
  simp [landPending]
@[simp] theorem landPending_readData (i : Nat) (p : Byte) (s : State) : (landPending i p s).readData = s.readData := by
  simp [landPending]
@[simp] theorem landPending_opResult (i : Nat) (p : Byte) (s : State) : (landPending i p s).opResult = s.opResult := by
  simp [landPending]

@[simp] theorem landPb_par (i : Nat) (b : Byte) (s : State) : (landPb i b s).par = s.par := by
  unfold landPb; split <;> (try split) <;> simp
@[simp] theorem landPb_ruleset (i : Nat) (b : Byte) (s : State) : (landPb i b s).ruleset = s.ruleset := by
  unfold landPb; split <;> (try split) <;> simp
@[simp] theorem landPb_stateReg (i : Nat) (b : Byte) (s : State) : (landPb i b s).stateReg = s.stateReg := by
  unfold landPb; split <;> (try split) <;> simp
@[simp] theorem landPb_op (i : Nat) (b : Byte) (s : State) : (landPb i b s).op = s.op := by
  unfold landPb; split <;> (try split) <;> simp
@[simp] theorem landPb_idx (i : Nat) (b : Byte) (s : State) : (landPb i b s).idx = s.idx := by
  unfold landPb; split <;> (try split) <;> simp
@[simp] theorem landPb_attempt (i : Nat) (b : Byte) (s : State) : (landPb i b s).attempt = s.attempt := by
  unfold landPb; split <;> (try split) <;> simp
@[simp] theorem landPb_pbSynced (i : Nat) (b : Byte) (s : State) : (landPb i b s).pbSynced = s.pbSynced := by
  unfold landPb; split <;> (try split) <;> simp
@[simp] theorem landPb_debugEn (i : Nat) (b : Byte) (s : State) : (landPb i b s).debugEn = s.debugEn := by
  unfold landPb; split <;> (try split) <;> simp
@[simp] theorem landPb_faulted (i : Nat) (b : Byte) (s : State) : (landPb i b s).faulted = s.faulted := by
  unfold landPb; split <;> (try split) <;> simp
@[simp] theorem landPb_faultCause (i : Nat) (b : Byte) (s : State) : (landPb i b s).faultCause = s.faultCause := by
  unfold landPb; split <;> (try split) <;> simp
@[simp] theorem landPb_srstPending (i : Nat) (b : Byte) (s : State) : (landPb i b s).srstPending = s.srstPending := by
  unfold landPb; split <;> (try split) <;> simp
@[simp] theorem landPb_errLcd (i : Nat) (b : Byte) (s : State) : (landPb i b s).errLcd = s.errLcd := by
  unfold landPb; split <;> (try split) <;> simp
@[simp] theorem landPb_errPb (i : Nat) (b : Byte) (s : State) : (landPb i b s).errPb = s.errPb := by
  unfold landPb; split <;> (try split) <;> simp
@[simp] theorem landPb_lcdBusy (i : Nat) (b : Byte) (s : State) : (landPb i b s).lcdBusy = s.lcdBusy := by
  unfold landPb; split <;> (try split) <;> simp
@[simp] theorem landPb_lcdInflightTx (i : Nat) (b : Byte) (s : State) : (landPb i b s).lcdInflightTx = s.lcdInflightTx := by
  unfold landPb; split <;> (try split) <;> simp
@[simp] theorem landPb_indHeart (i : Nat) (b : Byte) (s : State) : (landPb i b s).indHeart = s.indHeart := by
  unfold landPb; split <;> (try split) <;> simp
@[simp] theorem landPb_env (i : Nat) (b : Byte) (s : State) : (landPb i b s).env = s.env := by
  unfold landPb; split <;> (try split) <;> simp
@[simp] theorem landPb_readData (i : Nat) (b : Byte) (s : State) : (landPb i b s).readData = s.readData := by
  unfold landPb; split <;> (try split) <;> simp
@[simp] theorem landPb_opResult (i : Nat) (b : Byte) (s : State) : (landPb i b s).opResult = s.opResult := by
  unfold landPb; split <;> (try split) <;> simp

/-! Strategies, hooks and completion. -/

@[simp] theorem delayOp_par (k : DelayKind) (s : State) : (delayOp k s).par = s.par := by
  simp [delayOp]
@[simp] theorem delayOp_ruleset (k : DelayKind) (s : State) : (delayOp k s).ruleset = s.ruleset := by
  simp [delayOp]
@[simp] theorem delayOp_stateReg (k : DelayKind) (s : State) : (delayOp k s).stateReg = s.stateReg := by
  simp [delayOp]
@[simp] theorem delayOp_op (k : DelayKind) (s : State) : (delayOp k s).op = s.op := by
  simp [delayOp]
@[simp] theorem delayOp_idx (k : DelayKind) (s : State) : (delayOp k s).idx = s.idx := by
  simp [delayOp]
@[simp] theorem delayOp_attempt (k : DelayKind) (s : State) : (delayOp k s).attempt = s.attempt := by
  simp [delayOp]
@[simp] theorem delayOp_pbSynced (k : DelayKind) (s : State) : (delayOp k s).pbSynced = s.pbSynced := by
  simp [delayOp]
@[simp] theorem delayOp_debugEn (k : DelayKind) (s : State) : (delayOp k s).debugEn = s.debugEn := by
  simp [delayOp]
@[simp] theorem delayOp_faulted (k : DelayKind) (s : State) : (delayOp k s).faulted = s.faulted := by
  simp [delayOp]
@[simp] theorem delayOp_faultCause (k : DelayKind) (s : State) : (delayOp k s).faultCause = s.faultCause := by
  simp [delayOp]
@[simp] theorem delayOp_srstPending (k : DelayKind) (s : State) : (delayOp k s).srstPending = s.srstPending := by
  simp [delayOp]
@[simp] theorem delayOp_errLcd (k : DelayKind) (s : State) : (delayOp k s).errLcd = s.errLcd := by
  simp [delayOp]
@[simp] theorem delayOp_errPb (k : DelayKind) (s : State) : (delayOp k s).errPb = s.errPb := by
  simp [delayOp]
@[simp] theorem delayOp_mem (k : DelayKind) (s : State) : (delayOp k s).mem = s.mem := by
  simp [delayOp]
@[simp] theorem delayOp_lcdBusy (k : DelayKind) (s : State) : (delayOp k s).lcdBusy = s.lcdBusy := by
  simp [delayOp]
@[simp] theorem delayOp_lcdInflightTx (k : DelayKind) (s : State) : (delayOp k s).lcdInflightTx = s.lcdInflightTx := by
  simp [delayOp]
@[simp] theorem delayOp_pbPending (k : DelayKind) (s : State) : (delayOp k s).pbPending = s.pbPending := by
  simp [delayOp]
@[simp] theorem delayOp_indHeart (k : DelayKind) (s : State) : (delayOp k s).indHeart = s.indHeart := by
  simp [delayOp]
@[simp] theorem delayOp_env (k : DelayKind) (s : State) : (delayOp k s).env = s.env := by
  simp [delayOp]
@[simp] theorem delayOp_readData (k : DelayKind) (s : State) : (delayOp k s).readData = s.readData := by
  simp [delayOp]
@[simp] theorem delayOp_opResult (k : DelayKind) (s : State) : (delayOp k s).opResult = s.opResult := by
  simp [delayOp]

@[simp] theorem hookApplyOp_par (d : Dir) (s : State) : (hookApplyOp d s).par = s.par := by
  simp [hookApplyOp]
@[simp] theorem hookApplyOp_ruleset (d : Dir) (s : State) : (hookApplyOp d s).ruleset = s.ruleset := by
  simp [hookApplyOp]
@[simp] theorem hookApplyOp_stateReg (d : Dir) (s : State) : (hookApplyOp d s).stateReg = s.stateReg := by
  simp [hookApplyOp]
@[simp] theorem hookApplyOp_op (d : Dir) (s : State) : (hookApplyOp d s).op = s.op := by
  simp [hookApplyOp]
@[simp] theorem hookApplyOp_idx (d : Dir) (s : State) : (hookApplyOp d s).idx = s.idx := by
  simp [hookApplyOp]
@[simp] theorem hookApplyOp_attempt (d : Dir) (s : State) : (hookApplyOp d s).attempt = s.attempt := by
  simp [hookApplyOp]
@[simp] theorem hookApplyOp_pbSynced (d : Dir) (s : State) : (hookApplyOp d s).pbSynced = s.pbSynced := by
  simp [hookApplyOp]
@[simp] theorem hookApplyOp_debugEn (d : Dir) (s : State) : (hookApplyOp d s).debugEn = s.debugEn := by
  simp [hookApplyOp]
@[simp] theorem hookApplyOp_faulted (d : Dir) (s : State) : (hookApplyOp d s).faulted = s.faulted := by
  simp [hookApplyOp]
@[simp] theorem hookApplyOp_faultCause (d : Dir) (s : State) : (hookApplyOp d s).faultCause = s.faultCause := by
  simp [hookApplyOp]
@[simp] theorem hookApplyOp_srstPending (d : Dir) (s : State) : (hookApplyOp d s).srstPending = s.srstPending := by
  simp [hookApplyOp]
@[simp] theorem hookApplyOp_errLcd (d : Dir) (s : State) : (hookApplyOp d s).errLcd = s.errLcd := by
  simp [hookApplyOp]
@[simp] theorem hookApplyOp_errPb (d : Dir) (s : State) : (hookApplyOp d s).errPb = s.errPb := by
  simp [hookApplyOp]
@[simp] theorem hookApplyOp_lcdBusy (d : Dir) (s : State) : (hookApplyOp d s).lcdBusy = s.lcdBusy := by
  simp [hookApplyOp]
@[simp] theorem hookApplyOp_lcdInflightTx (d : Dir) (s : State) : (hookApplyOp d s).lcdInflightTx = s.lcdInflightTx := by
  simp [hookApplyOp]
@[simp] theorem hookApplyOp_pbPending (d : Dir) (s : State) : (hookApplyOp d s).pbPending = s.pbPending := by
  simp [hookApplyOp]
@[simp] theorem hookApplyOp_indHeart (d : Dir) (s : State) : (hookApplyOp d s).indHeart = s.indHeart := by
  simp [hookApplyOp]
@[simp] theorem hookApplyOp_env (d : Dir) (s : State) : (hookApplyOp d s).env = s.env := by
  simp [hookApplyOp]
@[simp] theorem hookApplyOp_readData (d : Dir) (s : State) : (hookApplyOp d s).readData = s.readData := by
  simp [hookApplyOp]
@[simp] theorem hookApplyOp_opResult (d : Dir) (s : State) : (hookApplyOp d s).opResult = s.opResult := by
  simp [hookApplyOp]

@[simp] theorem debugHookOp_par (f : List Byte) (s : State) : (debugHookOp f s).par = s.par := by
  unfold debugHookOp; split <;> simp
@[simp] theorem debugHookOp_ruleset (f : List Byte) (s : State) : (debugHookOp f s).ruleset = s.ruleset := by
  unfold debugHookOp; split <;> simp
@[simp] theorem debugHookOp_stateReg (f : List Byte) (s : State) : (debugHookOp f s).stateReg = s.stateReg := by
  unfold debugHookOp; split <;> simp
@[simp] theorem debugHookOp_op (f : List Byte) (s : State) : (debugHookOp f s).op = s.op := by
  unfold debugHookOp; split <;> simp
@[simp] theorem debugHookOp_idx (f : List Byte) (s : State) : (debugHookOp f s).idx = s.idx := by
  unfold debugHookOp; split <;> simp
@[simp] theorem debugHookOp_attempt (f : List Byte) (s : State) : (debugHookOp f s).attempt = s.attempt := by
  unfold debugHookOp; split <;> simp
@[simp] theorem debugHookOp_pbSynced (f : List Byte) (s : State) : (debugHookOp f s).pbSynced = s.pbSynced := by
  unfold debugHookOp; split <;> simp
@[simp] theorem debugHookOp_debugEn (f : List Byte) (s : State) : (debugHookOp f s).debugEn = s.debugEn := by
  unfold debugHookOp; split <;> simp
@[simp] theorem debugHookOp_faulted (f : List Byte) (s : State) : (debugHookOp f s).faulted = s.faulted := by
  unfold debugHookOp; split <;> simp
@[simp] theorem debugHookOp_faultCause (f : List Byte) (s : State) : (debugHookOp f s).faultCause = s.faultCause := by
  unfold debugHookOp; split <;> simp
@[simp] theorem debugHookOp_srstPending (f : List Byte) (s : State) : (debugHookOp f s).srstPending = s.srstPending := by
  unfold debugHookOp; split <;> simp
@[simp] theorem debugHookOp_errLcd (f : List Byte) (s : State) : (debugHookOp f s).errLcd = s.errLcd := by
  unfold debugHookOp; split <;> simp
@[simp] theorem debugHookOp_errPb (f : List Byte) (s : State) : (debugHookOp f s).errPb = s.errPb := by
  unfold debugHookOp; split <;> simp
@[simp] theorem debugHookOp_lcdBusy (f : List Byte) (s : State) : (debugHookOp f s).lcdBusy = s.lcdBusy := by
  unfold debugHookOp; split <;> simp
@[simp] theorem debugHookOp_lcdInflightTx (f : List Byte) (s : State) : (debugHookOp f s).lcdInflightTx = s.lcdInflightTx := by
  unfold debugHookOp; split <;> simp
@[simp] theorem debugHookOp_pbPending (f : List Byte) (s : State) : (debugHookOp f s).pbPending = s.pbPending := by
  unfold debugHookOp; split <;> simp
@[simp] theorem debugHookOp_indHeart (f : List Byte) (s : State) : (debugHookOp f s).indHeart = s.indHeart := by
  unfold debugHookOp; split <;> simp
@[simp] theorem debugHookOp_trace (f : List Byte) (s : State) : (debugHookOp f s).trace = s.trace := by
  unfold debugHookOp; split <;> simp
@[simp] theorem debugHookOp_env (f : List Byte) (s : State) : (debugHookOp f s).env = s.env := by
  unfold debugHookOp; split <;> simp
@[simp] theorem debugHookOp_readData (f : List Byte) (s : State) : (debugHookOp f s).readData = s.readData := by
  unfold debugHookOp; split <;> simp
@[simp] theorem debugHookOp_opResult (f : List Byte) (s : State) : (debugHookOp f s).opResult = s.opResult := by
  unfold debugHookOp; split <;> simp

@[simp] theorem completionGuard_par (s : State) : (completionGuard s).par = s.par := by
  unfold completionGuard; split <;> simp
@[simp] theorem completionGuard_ruleset (s : State) : (completionGuard s).ruleset = s.ruleset := by
  unfold completionGuard; split <;> simp
@[simp] theorem completionGuard_op (s : State) : (completionGuard s).op = s.op := by
  unfold completionGuard; split <;> simp
@[simp] theorem completionGuard_idx (s : State) : (completionGuard s).idx = s.idx := by
  unfold completionGuard; split <;> simp
@[simp] theorem completionGuard_attempt (s : State) : (completionGuard s).attempt = s.attempt := by
  unfold completionGuard; split <;> simp
@[simp] theorem completionGuard_pbSynced (s : State) : (completionGuard s).pbSynced = s.pbSynced := by
  unfold completionGuard; split <;> simp
@[simp] theorem completionGuard_debugEn (s : State) : (completionGuard s).debugEn = s.debugEn := by
  unfold completionGuard; split <;> simp
@[simp] theorem completionGuard_faulted (s : State) : (completionGuard s).faulted = s.faulted := by
  unfold completionGuard; split <;> simp
@[simp] theorem completionGuard_faultCause (s : State) : (completionGuard s).faultCause = s.faultCause := by
  unfold completionGuard; split <;> simp
@[simp] theorem completionGuard_srstPending (s : State) : (completionGuard s).srstPending = s.srstPending := by
  unfold completionGuard; split <;> simp
@[simp] theorem completionGuard_errLcd (s : State) : (completionGuard s).errLcd = s.errLcd := by
  unfold completionGuard; split <;> simp
@[simp] theorem completionGuard_errPb (s : State) : (completionGuard s).errPb = s.errPb := by
  unfold completionGuard; split <;> simp
@[simp] theorem completionGuard_mem (s : State) : (completionGuard s).mem = s.mem := by
  unfold completionGuard; split <;> simp
@[simp] theorem completionGuard_lcdBusy (s : State) : (completionGuard s).lcdBusy = s.lcdBusy := by
  unfold completionGuard; split <;> simp
@[simp] theorem completionGuard_lcdInflightTx (s : State) : (completionGuard s).lcdInflightTx = s.lcdInflightTx := by
  unfold completionGuard; split <;> simp
@[simp] theorem completionGuard_pbPending (s : State) : (completionGuard s).pbPending = s.pbPending := by
  unfold completionGuard; split <;> simp
@[simp] theorem completionGuard_indHeart (s : State) : (completionGuard s).indHeart = s.indHeart := by
  unfold completionGuard; split <;> simp
@[simp] theorem completionGuard_env (s : State) : (completionGuard s).env = s.env := by
  unfold completionGuard; split <;> simp
@[simp] theorem completionGuard_readData (s : State) : (completionGuard s).readData = s.readData := by
  unfold completionGuard; split <;> simp
@[simp] theorem completionGuard_opResult (s : State) : (completionGuard s).opResult = s.opResult := by
  unfold completionGuard; split <;> simp

@[simp] theorem landBurst_par (rx : List Byte) (s : State) : (landBurst rx s).par = s.par := by
  simp [landBurst]
@[simp] theorem landBurst_ruleset (rx : List Byte) (s : State) : (landBurst rx s).ruleset = s.ruleset := by
  simp [landBurst]
@[simp] theorem landBurst_stateReg (rx : List Byte) (s : State) : (landBurst rx s).stateReg = s.stateReg := by
  simp [landBurst]
@[simp] theorem landBurst_op (rx : List Byte) (s : State) : (landBurst rx s).op = s.op := by
  simp [landBurst]
@[simp] theorem landBurst_idx (rx : List Byte) (s : State) : (landBurst rx s).idx = s.idx := by
  simp [landBurst]
@[simp] theorem landBurst_attempt (rx : List Byte) (s : State) : (landBurst rx s).attempt = s.attempt := by
  simp [landBurst]
@[simp] theorem landBurst_pbSynced (rx : List Byte) (s : State) : (landBurst rx s).pbSynced = s.pbSynced := by
  simp [landBurst]
@[simp] theorem landBurst_debugEn (rx : List Byte) (s : State) : (landBurst rx s).debugEn = s.debugEn := by
  simp [landBurst]
@[simp] theorem landBurst_faulted (rx : List Byte) (s : State) : (landBurst rx s).faulted = s.faulted := by
  simp [landBurst]
@[simp] theorem landBurst_faultCause (rx : List Byte) (s : State) : (landBurst rx s).faultCause = s.faultCause := by
  simp [landBurst]
@[simp] theorem landBurst_srstPending (rx : List Byte) (s : State) : (landBurst rx s).srstPending = s.srstPending := by
  simp [landBurst]
@[simp] theorem landBurst_errLcd (rx : List Byte) (s : State) : (landBurst rx s).errLcd = s.errLcd := by
  simp [landBurst]
@[simp] theorem landBurst_errPb (rx : List Byte) (s : State) : (landBurst rx s).errPb = s.errPb := by
  simp [landBurst]
@[simp] theorem landBurst_lcdInflightTx (rx : List Byte) (s : State) : (landBurst rx s).lcdInflightTx = s.lcdInflightTx := by
  simp [landBurst]
@[simp] theorem landBurst_pbPending (rx : List Byte) (s : State) : (landBurst rx s).pbPending = s.pbPending := by
  simp [landBurst]
@[simp] theorem landBurst_indHeart (rx : List Byte) (s : State) : (landBurst rx s).indHeart = s.indHeart := by
  simp [landBurst]
@[simp] theorem landBurst_env (rx : List Byte) (s : State) : (landBurst rx s).env = s.env := by
  simp [landBurst]
@[simp] theorem landBurst_readData (rx : List Byte) (s : State) : (landBurst rx s).readData = s.readData := by
  simp [landBurst]
@[simp] theorem landBurst_opResult (rx : List Byte) (s : State) : (landBurst rx s).opResult = s.opResult := by
  simp [landBurst]

/-! What the hooks leave in memory (43_bridge_fsm.md section 4). -/

/-- The hook's buffer becomes HOOK of what it held (43 R113). -/
theorem hookApply_read (d : Dir) (s : State) :
    (hookApplyOp d s).readBuf (Dir.buffer d) = hook s.par d s.ruleset (s.readBuf (Dir.buffer d)) := by
  have : (hookApplyOp d s).mem =
      (s.writeBuf (Dir.buffer d) (hook s.par d s.ruleset (s.readBuf (Dir.buffer d)))).mem := rfl
  rw [readBuf_congr this (by simp), readBuf_writeBuf_same]
  exact hook_length _ _ _ _

theorem hookApply_outside (d : Dir) (s : State) (a : Nat)
    (ha : ¬ (s.base (Dir.buffer d) ≤ a ∧ a < s.base (Dir.buffer d) + s.par.n)) :
    (hookApplyOp d s).byteAt a = s.byteAt a :=
  byteAt_writeBuf_outside s (Dir.buffer d) _ (hook_length _ _ _ _) a ha

theorem hookApply_trace (d : Dir) (s : State) :
    (hookApplyOp d s).trace =
      s.trace ++ [.hook d (s.readBuf (Dir.buffer d)) (hook s.par d s.ruleset (s.readBuf (Dir.buffer d)))] := by
  simp [hookApplyOp]

/-- The trace event of a byte that lands because a newer one arrives (20 R51). -/
theorem landPb_trace (i : Nat) (b : Byte) (s : State) :
    (landPb i b s).trace = s.trace ++ (match s.par.race, s.slot i with
      | .anyPending, some p => [Event.land .pb i [p]]
      | _, _ => []) := by
  unfold landPb
  cases hr : s.par.race with
  | exact => simp
  | anyPending => cases hs : s.slot i <;> simp [landPending]

/-! What each operation does to buffer memory's canonical form. -/

theorem landPb_wf (i : Nat) (b : Byte) (s : State) (hi : i < s.par.n) (h : Memory.wf s.par s.mem = true) :
    Memory.wf s.par (landPb i b s).mem = true := by
  have ha : s.base .pbRx + i < memSize s.par := by simp [State.base, Buf.base, memSize]; omega
  unfold landPb
  cases s.par.race with
  | exact => exact writeByte_wf s _ _ ha h
  | anyPending =>
    cases s.slot i with
    | none => exact h
    | some p => exact writeByte_wf s _ _ ha h

theorem writeBuf_wf (s : State) (b : Buf) (v : List Byte) (hv : v.length = s.par.n)
    (h : Memory.wf s.par s.mem = true) : Memory.wf s.par (s.writeBuf b v).mem = true :=
  writeBytes_wf s _ v (by rw [hv]; exact base_le s.par b) h

theorem copyBuf_wf (s : State) (src dst : Buf) (h : Memory.wf s.par s.mem = true) :
    Memory.wf s.par (s.copyBuf src dst).mem = true := writeBuf_wf s dst _ (by simp) h

theorem hookApply_wf (d : Dir) (s : State) (h : Memory.wf s.par s.mem = true) :
    Memory.wf s.par (hookApplyOp d s).mem = true := writeBuf_wf s _ _ (hook_length _ _ _ _) h

theorem debugHook_wf (f : List Byte) (s : State) (h : Memory.wf s.par s.mem = true) :
    Memory.wf s.par (debugHookOp f s).mem = true := by
  unfold debugHookOp
  split
  · rename_i j hj
    have := dbgMap_range _ _ _ hj
    exact writeByte_wf s _ _ (by simp [State.base, Buf.base, memSize]; omega) h
  · exact h

theorem landBurst_wf (rx : List Byte) (s : State) (hv : rx.length = s.par.n) (h : Memory.wf s.par s.mem = true) :
    Memory.wf s.par (landBurst rx s).mem = true := writeBuf_wf s .lcdRx rx hv h

/-- The snapshot of the SyncLCD tail has `N-1` bytes (41 R86). -/
@[simp] theorem syncTailTx_length (s : State) : (syncTailTx s).length = s.par.n - 1 := by
  unfold syncTailTx; split <;> simp

end Sys2Proof.Machine
end

