-- ==== Sys2Proof/Laws/Elim.lean ====
section
/-! SUPPORT. Everything an operation, and a step, can come to, said once as an elimination rule: what holds of each
outcome holds of the result. Proofs about all steps cite these and unfold no transaction. -/

namespace Sys2Proof.Machine

/-- Everything PROBE can come to, and the rest of the row after it (41 R85). -/
theorem probeOp_elim {P : State → Prop} (p : Port) (s : State) (k : Byte → State → State)
    (held : ∀ e, P (s.withEnv e))
    (failed : ∀ e, P (raiseTransportFault (faultCode p .probe) ((s.withEnv e).emit (.xfer p .probe [0x00#8] .fail none))))
    (lcd : p = .lcd → s.lcdBusy = false → ∀ e b,
      P (k b (((s.withEnv e).emit (.xfer .lcd .probe [0x00#8] .ok (some [b]))).writeByte (s.base .lcdRx) b)))
    (pb : p = .pb → ∀ e b, P (k b (landPb 0 b ((s.withEnv e).emit (.xfer .pb .probe [0x00#8] .ok (some [b])))))) :
    P ((probeOp p s).andThen k) := by
  cases p with
  | lcd =>
    unfold probeOp
    rcases lcdXfer_cases .probe [0x00#8] s with ⟨e, h⟩ | ⟨-, e, h⟩ | ⟨hb, e, rx, hl, h⟩
    · rw [h]; exact held e
    · rw [h]; exact failed e
    · obtain ⟨b, rfl⟩ := List.length_eq_one_iff.mp hl
      rw [h]
      exact lcd rfl hb e b
  | pb =>
    unfold probeOp
    rcases pbXfer_cases .probe 0x00#8 s with ⟨e, h⟩ | ⟨e, b, h⟩
    · rw [h]; exact failed e
    · rw [h]; exact pb rfl e b

/-- Everything BURST_SYNC can come to (41 R86). -/
theorem burstSyncOp_elim {P : State → Prop} (s : State) (k : Unit → State → State)
    (held : ∀ e, P (s.withEnv e))
    (failed : ∀ e, P (raiseTransportFault (faultCode .lcd .burstSync)
      ((s.withEnv e).emit (.xfer .lcd .burstSync (syncTailTx s) .fail none))))
    (done : s.lcdBusy = false → ∀ e rx, rx.length = s.par.n - 1 →
      P (k () (((s.withEnv e).emit (.xfer .lcd .burstSync (syncTailTx s) .ok (some rx))).writeBytes
        (s.base .lcdRx + 1) rx))) :
    P ((burstSyncOp s).andThen k) := by
  unfold burstSyncOp
  rcases lcdXfer_cases .burstSync (syncTailTx s) s with ⟨e, h⟩ | ⟨-, e, h⟩ | ⟨hb, e, rx, hl, h⟩
  · rw [h]; exact held e
  · rw [h]; exact failed e
  · rw [h]; exact done hb e rx (by simpa using hl)

/-- Everything BURST_START can come to (41 R87). -/
theorem burstStartOp_elim {P : State → Prop} (s : State) (k : Unit → State → State)
    (failed : ∀ e, P (raiseTransportFault (faultCode .lcd .burstStart)
      ((s.withEnv e).emit (.xfer .lcd .burstStart (s.readBuf .lcdTx) .fail (some [])))))
    (done : ∀ e, P (k () { (s.withEnv e).emit (.xfer .lcd .burstStart (s.readBuf .lcdTx) .ok (some [])) with
      lcdInflightTx := s.readBuf .lcdTx, lcdBusy := true })) :
    P ((burstStartOp s).andThen k) := by
  unfold burstStartOp
  cases h : startDraw s.par.block s.env with
  | mk st e =>
    cases st with
    | fail => exact failed e
    | ok => exact done e

/-- Everything a Paced byte can come to (41 R89). -/
theorem pacedByteOp_elim {P : State → Prop} (i : Nat) (s : State) (k : Unit → State → State)
    (failed : ∀ e, P (raiseTransportFault (faultCode .pb .pacedByte)
      ((s.withEnv e).emit (.xfer .pb .pacedByte [s.bufByte .pbTx i] .fail none))))
    (done : ∀ e b, P (k () (landPb i b
      ((s.withEnv e).emit (.xfer .pb .pacedByte [s.bufByte .pbTx i] .ok (some [b])))))) :
    P ((pacedByteOp i s).andThen k) := by
  unfold pacedByteOp
  rcases pbXfer_cases .pacedByte (s.bufByte .pbTx i) s with ⟨e, h⟩ | ⟨e, b, h⟩
  · rw [h]; exact failed e
  · rw [h]; exact done e b

/-- Everything DONE(LCD) can come to when it is not discarded (41 R88). -/
theorem takeCompletion_elim {P : State → Prop} (s : State)
    (spurious : ∀ e, P (completionGuard (s.withEnv e)))
    (ended : s.lcdBusy = true → ∀ e rx, rx.length = s.par.n → P (completionGuard (landBurst rx (s.withEnv e)))) :
    P (takeCompletion s) := by
  unfold takeCompletion
  split
  · rename_i hb
    split
    · rename_i rx e h; exact ended hb e rx (doneDraw_length h)
    · rename_i e h; exact spurious e
  · exact spurious s.env

/-- Only the event code 0b00 is a power-on reset (30 R69). -/
theorem decodeEvent_evPor {c : BitVec 2} (h : decodeEvent c = .evPor) : c = 0b00#2 := by
  revert c; decide

/-- Everything one step can be: a held micro-step, a soft reset, or the row that the stimulus names, on the state with the
environment moved on (43 R98, 00 R15). -/
theorem step_elim {P : State → Prop} {s t : State} (h : step s = .next t) (x : Stimulus) (e : Env)
    (hx : nextStimulus s.par.block s.env = (x, e))
    (held : s.faulted = true → P (s.withEnv e))
    (soft : x = .move .controller → s.faulted = false → s.srstPending = true → P (applySoftReset (s.withEnv e)))
    (row : x = .move .controller → s.faulted = false → s.srstPending = false →
      exec (decodeState s.selector) (s.withEnv e) = .next t → P t)
    (port : ∀ k, x = .move (.pbPort k) → exec (.pbLand k) (s.withEnv e) = .next t → P t)
    (host : ∀ w, x = .move (.host w) → exec (decodeHost w) (s.withEnv e) = .next t → P t)
    (event : ∀ c, x = .move (.event c) → exec (decodeEvent c) (s.withEnv e) = .next t → P t)
    (ruleset : ∀ r, x = .move (.setRuleset r) → P { s.withEnv e with ruleset := r })
    (datapath : ∀ w i, x = .datapath w → s.faulted = false → decodeInternal w = .ok i →
      exec i (s.withEnv e) = .next t → P t) : P t := by
  simp only [step, machineStep, hx] at h
  cases x with
  | move m =>
    cases m with
    | controller =>
      change controllerStep (s.withEnv e) = _ at h
      unfold controllerStep at h
      cases hf : (s.withEnv e).faulted with
      | true => rw [hf, if_pos rfl] at h; cases h; exact held hf
      | false =>
        rw [hf, if_neg Bool.false_ne_true] at h
        cases hs : (s.withEnv e).srstPending with
        | true => rw [hs, if_pos rfl] at h; cases h; exact soft rfl hf hs
        | false => rw [hs, if_neg Bool.false_ne_true] at h; exact row rfl hf hs h
    | pbPort k => exact port k rfl h
    | host w => exact host w rfl h
    | event c => exact event c rfl h
    | setRuleset r => cases h; exact ruleset r rfl
  | datapath w =>
    change datapathStep w (s.withEnv e) = _ at h
    unfold datapathStep at h
    cases hf : (s.withEnv e).faulted with
    | true => rw [hf, if_pos rfl] at h; cases h; exact held hf
    | false =>
      rw [hf, if_neg Bool.false_ne_true] at h
      cases hd : decodeInternal w with
      | ok i => rw [hd] at h; exact datapath w i rfl hf hd h
      | error d => rw [hd] at h; cases h

end Sys2Proof.Machine
end

