-- ==== Sys2Proof/Laws/Encoding.lean ====
section
/-! SUPPORT. Taking a word apart into its fields and putting it together again, for the four formats
(30_encoding.md section 5). -/

namespace Sys2Proof

/-- The low part of a concatenation. -/
theorem extract_append_low {m n : Nat} (x : BitVec m) (y : BitVec n) : (x ++ y).extractLsb' 0 n = y := by
  apply BitVec.eq_of_getLsbD_eq
  intro i hi
  simp [BitVec.getLsbD_append, hi]

/-- The high part of a concatenation. -/
theorem extract_append_high {m n : Nat} (x : BitVec m) (y : BitVec n) : (x ++ y).extractLsb' n m = x := by
  apply BitVec.eq_of_getLsbD_eq
  intro i hi
  simp [BitVec.getLsbD_append, hi]

/-- The middle and the top of three parts. -/
theorem extract_append_mid {a b c : Nat} (x : BitVec a) (y : BitVec b) (z : BitVec c) :
    (x ++ y ++ z).extractLsb' c b = y := by
  apply BitVec.eq_of_getLsbD_eq
  intro i hi
  simp [BitVec.getLsbD_append, hi]
theorem extract_append_top {a b c : Nat} (x : BitVec a) (y : BitVec b) (z : BitVec c) :
    (x ++ y ++ z).extractLsb' (c + b) a = x := by
  apply BitVec.eq_of_getLsbD_eq
  intro i hi
  have h1 : ¬ c + b + i < c := by omega
  have h2 : c + b + i - c = b + i := by omega
  simp [BitVec.getLsbD_append, hi, h1, h2]

/-- Two adjacent parts make the whole. -/
theorem append_extract {m n : Nat} (w : BitVec (m + n)) : w.extractLsb' n m ++ w.extractLsb' 0 n = w := by
  apply BitVec.eq_of_getLsbD_eq
  intro i hi
  simp only [BitVec.getLsbD_append, BitVec.getLsbD_extractLsb', Nat.zero_add]
  by_cases h : i < n
  · simp [h]
  · have h1 : i - n < m := by omega
    have h2 : n + (i - n) = i := by omega
    simp [h, h1, h2]

@[simp] theorem selector_state (op : BitVec 3) (st : BitVec 4) : (selector op st).extractLsb' 0 4 = st :=
  extract_append_low op st
@[simp] theorem selector_op (op : BitVec 3) (st : BitVec 4) : (selector op st).extractLsb' 4 3 = op :=
  extract_append_high op st
/-- A selector is its two fields. -/
theorem selector_fields (w : BitVec 7) : selector (w.extractLsb' 4 3) (w.extractLsb' 0 4) = w :=
  append_extract (m := 3) (n := 4) w

@[simp] theorem internalWord_uop (uop : BitVec 4) (arg : Byte) : (internalWord uop arg).extractLsb' 0 4 = uop :=
  extract_append_low arg uop
@[simp] theorem internalWord_arg (uop : BitVec 4) (arg : Byte) : (internalWord uop arg).extractLsb' 4 8 = arg :=
  extract_append_high arg uop
/-- A datapath word is its two fields. -/
theorem internalWord_fields (w : BitVec 12) : internalWord (w.extractLsb' 0 4) (w.extractLsb' 4 8) = w :=
  append_extract (m := 8) (n := 4) w

@[simp] theorem hostWord_data (we : BitVec 1) (addr : BitVec 4) (data : Byte) :
    (hostWord we addr data).extractLsb' 0 8 = data := extract_append_low (we ++ addr) data
@[simp] theorem hostWord_addr (we : BitVec 1) (addr : BitVec 4) (data : Byte) :
    (hostWord we addr data).extractLsb' 8 4 = addr := extract_append_mid we addr data
@[simp] theorem hostWord_we (we : BitVec 1) (addr : BitVec 4) (data : Byte) :
    (hostWord we addr data).extractLsb' 12 1 = we := extract_append_top we addr data
/-- A host word is its three fields. -/
theorem hostWord_fields (w : BitVec 13) :
    hostWord (w.extractLsb' 12 1) (w.extractLsb' 8 4) (w.extractLsb' 0 8) = w := by
  apply BitVec.eq_of_getLsbD_eq
  intro i hi
  simp only [hostWord, BitVec.getLsbD_append, BitVec.getLsbD_extractLsb', Nat.zero_add]
  by_cases h : i < 8
  · simp [h]
  · by_cases h1 : i - 8 < 4
    · have h2 : 8 + (i - 8) = i := by omega
      simp [h, h1, h2]
    · have h2 : 12 + (i - 8 - 4) = i := by omega
      have h3 : i - 8 - 4 < 1 := by omega
      simp [h, h1, h2]
      omega

end Sys2Proof
end

