-- ==== Sys2Proof/Laws/Frames.lean ====
section
/-! SUPPORT. Lemmas in the terms of claims: landings of PB bytes and the debug hook's target. -/

namespace Sys2Proof.Machine

/-- What a received byte does, in either race mode (20 R51). -/
theorem landPb_landed (i : Nat) (b : Byte) (s : State) : Landed i b s (landPb i b s) := by
  unfold Landed landPb
  cases hr : s.par.race with
  | exact =>
    refine ⟨?_, ?_, ?_, ?_⟩
    · intro a ha
      simp only [byteAt_writeByte]
      rw [if_neg (by omega)]
    · intro j hj; rfl
    · simp [State.bufByte, byteAt_writeByte, State.base]
    · rfl
  | anyPending =>
    cases hs : s.slot i with
    | none =>
      refine ⟨?_, ?_, ?_, ?_⟩
      · intro a ha; rfl
      · intro j hj; simp [State.slot, cellsLookup_insert, Ne.symm hj]
      · simp [State.slot]
      · rfl
    | some p =>
      refine ⟨?_, ?_, ?_, ?_⟩
      · intro a ha
        show (s.writeByte (s.base .pbRx + i) p).byteAt a = _
        rw [byteAt_writeByte, if_neg (by omega)]
      · intro j hj; simp [State.slot, cellsLookup_insert, Ne.symm hj]
      · simp [State.slot]
      · show (s.writeByte (s.base .pbRx + i) p).byteAt (s.base .pbRx + i) = _
        rw [byteAt_writeByte, if_pos rfl]
        rfl

theorem landPb_trace_events (i : Nat) (b : Byte) (s : State) : (landPb i b s).trace = s.trace ++ landEvents i s :=
  landPb_trace i b s

theorem landEvents_congr {s t : State} (i : Nat) (hp : t.par = s.par) (hq : t.pbPending = s.pbPending) :
    landEvents i t = landEvents i s := by
  simp [landEvents, hp, State.slot, hq]

/-- A landing speaks of the parameters, memory and the slots alone. -/
theorem landed_congr {i : Nat} {b : Byte} {s s' t t' : State} (h : Landed i b s t) (hp : s'.par = s.par)
    (hm : s'.mem = s.mem) (hq : s'.pbPending = s.pbPending) (hp' : t'.par = t.par) (hm' : t'.mem = t.mem)
    (hq' : t'.pbPending = t.pbPending) : Landed i b s' t' := by
  unfold Landed SameOutside State.slot State.bufByte State.base State.byteAt at *
  simpa [hp, hm, hq, hp', hm', hq'] using h

/-- The debug hook adds one at its target and nowhere else (43 R114). -/
theorem debugHook_byteAt (f : List Byte) (s : State) (a : Nat) :
    (debugHookOp f s).byteAt a = if debugTarget s f = some a then s.byteAt a + 1#8 else s.byteAt a := by
  unfold debugHookOp debugTarget
  cases h : dbgMap s.par (f.getD s.par.dbgBtnIdx 0x00#8) with
  | none => simp
  | some j =>
    simp only [byteAt_writeByte, Option.map_some, Option.some.injEq]
    by_cases ha : s.base .lcdTx + j = a
    · simp [ha, State.bufByte, Byte.succ]
    · simp [ha]

/-- The debug hook's target is a payload byte of LCD_TX (00 R18). -/
theorem debugTarget_range {s : State} {f : List Byte} {a : Nat} (h : debugTarget s f = some a) :
    s.base .lcdTx + 1 ≤ a ∧ a + 2 ≤ s.base .lcdTx + s.par.n := by
  simp only [debugTarget, Option.map_eq_some_iff] at h
  obtain ⟨j, hj, rfl⟩ := h
  have := dbgMap_range _ _ _ hj
  omega

end Sys2Proof.Machine
end

