-- ==== Sys2Proof/Laws/PerInstr.lean ====
section
/-! SUPPORT. One family of statements about the instructions as syntax, TableRow: the encoding of a well-formed
instruction has the format of its row of spec/opcode_table.json and the row's fixed bits. -/

namespace Sys2Proof.Laws.TableRow

/-- A row's format, mask and match, as the table has them; STEP_HOLD_PAIR has no mask, it takes what no other STATE row
takes (30 R71). -/
def row : Instr → Option (Format × Nat × Nat)
  | .stepInit => some (.state, 0x7F, 0x00)
  | .stepSyncpbProbe => some (.state, 0x7F, 0x11)
  | .stepSyncpbDelay => some (.state, 0x7F, 0x21)
  | .stepSyncedpb => some (.state, 0x7F, 0x02)
  | .stepSynclcdProbe => some (.state, 0x7F, 0x33)
  | .stepSynclcdTail => some (.state, 0x7F, 0x43)
  | .stepSyncedlcd => some (.state, 0x7F, 0x04)
  | .stepIdle => some (.state, 0x7F, 0x05)
  | .stepRequestlcd => some (.state, 0x7F, 0x06)
  | .stepAwaitinglcd => some (.state, 0x7F, 0x07)
  | .stepLcdreceived => some (.state, 0x7F, 0x08)
  | .stepRequestpbXfer => some (.state, 0x7F, 0x59)
  | .stepRequestpbDelay => some (.state, 0x7F, 0x69)
  | .stepAwaitingpb => some (.state, 0x7F, 0x0A)
  | .stepPbreceived => some (.state, 0x7F, 0x0B)
  | .stepHalt _ => some (.state, 0x0F, 0x0C)
  | .stepHaltD _ => some (.state, 0x0F, 0x0D)
  | .stepHaltEF _ _ => some (.state, 0x0E, 0x0E)
  | .stepHoldPair _ _ => none
  | .rdCtrl _ => some (.hostbus, 0x1F00, 0x0000)
  | .rdCmd _ => some (.hostbus, 0x1F00, 0x0100)
  | .rdStatus _ => some (.hostbus, 0x1F00, 0x0200)
  | .rdErrLcd _ => some (.hostbus, 0x1F00, 0x0300)
  | .rdErrPb _ => some (.hostbus, 0x1F00, 0x0400)
  | .rdFaultCause _ => some (.hostbus, 0x1F00, 0x0500)
  | .rdReserved67 _ _ => some (.hostbus, 0x1E00, 0x0600)
  | .rdReserved8F _ _ => some (.hostbus, 0x1800, 0x0800)
  | .wrCtrl _ => some (.hostbus, 0x1F00, 0x1000)
  | .wrCmdSrst _ => some (.hostbus, 0x1F01, 0x1101)
  | .wrCmdNop _ => some (.hostbus, 0x1F01, 0x1100)
  | .wrRo23 _ _ => some (.hostbus, 0x1E00, 0x1200)
  | .wrRo45 _ _ => some (.hostbus, 0x1E00, 0x1400)
  | .wrReserved67 _ _ => some (.hostbus, 0x1E00, 0x1600)
  | .wrReserved8F _ _ => some (.hostbus, 0x1800, 0x1800)
  | .evPor => some (.event, 0x3, 0x0)
  | .evSrst => some (.event, 0x3, 0x1)
  | .evDoneLcd => some (.event, 0x3, 0x2)
  | .evDonePb => some (.event, 0x3, 0x3)
  | .checksum _ _ => some (.internal, 0xF, 0x1)
  | .valid _ _ => some (.internal, 0xF, 0x2)
  | .copy _ _ => some (.internal, 0xF, 0x3)
  | .probe _ => some (.internal, 0xF, 0x4)
  | .burstSync => some (.internal, 0xF, 0x5)
  | .burstStart => some (.internal, 0xF, 0x6)
  | .pacedByte _ => some (.internal, 0xF, 0x7)
  | .delay _ => some (.internal, 0xF, 0x8)
  | .hookApply _ => some (.internal, 0xF, 0x9)
  | .debugHook => some (.internal, 0xF, 0xa)
  | .pbLand _ => some (.internal, 0xF, 0xb)

/-- The mask and match of every STATE row that has them. -/
def stateRows : List (Nat × Nat) :=
  [(0x7F, 0x00), (0x7F, 0x11), (0x7F, 0x21), (0x7F, 0x02), (0x7F, 0x33), (0x7F, 0x43), (0x7F, 0x04), (0x7F, 0x05), (0x7F, 0x06),
   (0x7F, 0x07), (0x7F, 0x08), (0x7F, 0x59), (0x7F, 0x69), (0x7F, 0x0A), (0x7F, 0x0B), (0x0F, 0x0C), (0x0F, 0x0D), (0x0E, 0x0E)]

/-- A code word's format and its bits as a number. -/
def parts : CodeWord → Format × Nat
  | .state w => (.state, w.toNat)
  | .hostbus w => (.hostbus, w.toNat)
  | .event w => (.event, w.toNat)
  | .internal w => (.internal, w.toNat)

/-- The encoding's format and fixed bits are the row's. -/
def inRow (i : Instr) : Bool :=
  let w := parts (encode i)
  match row i with
  | some (f, mask, pattern) => decide (w.1 = f) && (w.2 &&& mask) == pattern
  | none => decide (w.1 = .state) && stateRows.all fun r => (w.2 &&& r.1) != r.2

/-- The encoding of a well-formed instruction lies in its row of the table. -/
def Statement (i : Instr) : Prop := i.wf = true → inRow i = true

theorem stepInit : Statement .stepInit := by unfold Statement; decide
theorem stepSyncpbProbe : Statement .stepSyncpbProbe := by unfold Statement; decide
theorem stepSyncpbDelay : Statement .stepSyncpbDelay := by unfold Statement; decide
theorem stepSyncedpb : Statement .stepSyncedpb := by unfold Statement; decide
theorem stepSynclcdProbe : Statement .stepSynclcdProbe := by unfold Statement; decide
theorem stepSynclcdTail : Statement .stepSynclcdTail := by unfold Statement; decide
theorem stepSyncedlcd : Statement .stepSyncedlcd := by unfold Statement; decide
theorem stepIdle : Statement .stepIdle := by unfold Statement; decide
theorem stepRequestlcd : Statement .stepRequestlcd := by unfold Statement; decide
theorem stepAwaitinglcd : Statement .stepAwaitinglcd := by unfold Statement; decide
theorem stepLcdreceived : Statement .stepLcdreceived := by unfold Statement; decide
theorem stepRequestpbXfer : Statement .stepRequestpbXfer := by unfold Statement; decide
theorem stepRequestpbDelay : Statement .stepRequestpbDelay := by unfold Statement; decide
theorem stepAwaitingpb : Statement .stepAwaitingpb := by unfold Statement; decide
theorem stepPbreceived : Statement .stepPbreceived := by unfold Statement; decide
theorem stepHalt (op : BitVec 3) : Statement (.stepHalt op) := by
  unfold Statement
  revert op
  decide
theorem stepHaltD (op : BitVec 3) : Statement (.stepHaltD op) := by
  unfold Statement
  revert op
  decide
theorem stepHaltEF (op : BitVec 3) (low : BitVec 1) : Statement (.stepHaltEF op low) := by
  unfold Statement
  revert op low
  decide
theorem stepHoldPair (op : BitVec 3) (st : BitVec 4) : Statement (.stepHoldPair op st) := by
  unfold Statement
  revert op st
  decide
theorem rdCtrl (d : Byte) : Statement (.rdCtrl d) := by
  unfold Statement
  revert d
  decide
theorem rdCmd (d : Byte) : Statement (.rdCmd d) := by
  unfold Statement
  revert d
  decide
theorem rdStatus (d : Byte) : Statement (.rdStatus d) := by
  unfold Statement
  revert d
  decide
theorem rdErrLcd (d : Byte) : Statement (.rdErrLcd d) := by
  unfold Statement
  revert d
  decide
theorem rdErrPb (d : Byte) : Statement (.rdErrPb d) := by
  unfold Statement
  revert d
  decide
theorem rdFaultCause (d : Byte) : Statement (.rdFaultCause d) := by
  unfold Statement
  revert d
  decide
theorem rdReserved67 (a : BitVec 1) (d : Byte) : Statement (.rdReserved67 a d) := by
  unfold Statement
  revert a d
  decide
theorem rdReserved8F (a : BitVec 3) (d : Byte) : Statement (.rdReserved8F a d) := by
  unfold Statement
  revert a d
  decide
theorem wrCtrl (d : Byte) : Statement (.wrCtrl d) := by
  unfold Statement
  revert d
  decide
theorem wrCmdSrst (h : BitVec 7) : Statement (.wrCmdSrst h) := by
  unfold Statement
  revert h
  decide
theorem wrCmdNop (h : BitVec 7) : Statement (.wrCmdNop h) := by
  unfold Statement
  revert h
  decide
theorem wrRo23 (a : BitVec 1) (d : Byte) : Statement (.wrRo23 a d) := by
  unfold Statement
  revert a d
  decide
theorem wrRo45 (a : BitVec 1) (d : Byte) : Statement (.wrRo45 a d) := by
  unfold Statement
  revert a d
  decide
theorem wrReserved67 (a : BitVec 1) (d : Byte) : Statement (.wrReserved67 a d) := by
  unfold Statement
  revert a d
  decide
theorem wrReserved8F (a : BitVec 3) (d : Byte) : Statement (.wrReserved8F a d) := by
  unfold Statement
  revert a d
  decide
theorem evPor : Statement .evPor := by unfold Statement; decide
theorem evSrst : Statement .evSrst := by unfold Statement; decide
theorem evDoneLcd : Statement .evDoneLcd := by unfold Statement; decide
theorem evDonePb : Statement .evDonePb := by unfold Statement; decide
theorem checksum (ch : Port) (b : Buf) : Statement (.checksum ch b) := by
  unfold Statement
  cases ch <;> cases b <;> decide
theorem valid (ch : Port) (b : Buf) : Statement (.valid ch b) := by
  unfold Statement
  cases ch <;> cases b <;> decide
theorem copy (x : Buf) (y : Buf) : Statement (.copy x y) := by
  unfold Statement
  cases x <;> cases y <;> decide
theorem probe (p : Port) : Statement (.probe p) := by
  unfold Statement
  cases p <;> decide
theorem burstSync : Statement .burstSync := by unfold Statement; decide
theorem burstStart : Statement .burstStart := by unfold Statement; decide
theorem pacedByte (i : Byte) : Statement (.pacedByte i) := by
  unfold Statement
  revert i
  decide
theorem delay (k : DelayKind) : Statement (.delay k) := by
  unfold Statement
  cases k <;> decide
theorem hookApply (r : Dir) : Statement (.hookApply r) := by
  unfold Statement
  cases r <;> decide
theorem debugHook : Statement .debugHook := by unfold Statement; decide
theorem pbLand (i : Byte) : Statement (.pbLand i) := by
  unfold Statement
  revert i
  decide

end Sys2Proof.Laws.TableRow
end

