-- ==== Sys2Proof/Machine/Scenario.lean ====
section
/-! DEFINITION. The spec's notation for host programs and environment scripts (30 R74), as what each line puts into the
inbox and the boards' answers. RUN is written as STEP with its number of steps (log 40). -/

namespace Sys2Proof.Machine

/-- The host registers by name (30 R62, R74). -/
inductive HostReg where
  | ctrl
  | cmd
  | status
  | errLcd
  | errPb
  | faultCause
  deriving DecidableEq, Repr

/-- A register's address (30 R62). -/
def HostReg.addr : HostReg → BitVec 4
  | .ctrl => 0x0#4
  | .cmd => 0x1#4
  | .status => 0x2#4
  | .errLcd => 0x3#4
  | .errPb => 0x4#4
  | .faultCause => 0x5#4

/-- `RD <reg>`: the word `{0, addr, 0x00}` (30 R74). -/
def rdWord (r : HostReg) : BitVec 13 := hostWord 0#1 r.addr 0x00#8

/-- `WR <reg>, <imm8>`: the word `{1, addr, imm8}` (30 R74). -/
def wrWord (r : HostReg) (v : Byte) : BitVec 13 := hostWord 1#1 r.addr v

/-! The pseudo-operations and their expansions (30 R74). -/
def softResetWords : List (BitVec 13) := [wrWord .cmd 0x01#8]
def debugOnWords : List (BitVec 13) := [wrWord .ctrl 0x01#8]
def debugOffWords : List (BitVec 13) := [wrWord .ctrl 0x00#8]
def readErrorsWords : List (BitVec 13) := [rdWord .errLcd, rdWord .errPb]

/-- A line of a scenario (30 R74). A FAIL names the answer, from 1, that fails among those still to come. -/
inductive Line where
  | host (words : List (BitVec 13))
  | event (code : BitVec 2)
  | lcdClocks (bytes : List Byte)
  | lcdEnd (bytes : List Byte)
  | pbReturns (bytes : List Byte)
  | failLcd (item : Nat)
  | failStart
  | failPb (k : Nat)
  | steps (n : Nat)
  deriving DecidableEq, Repr

/-- What a line adds to the environment, behind what earlier lines put there. -/
def Env.add (e : Env) : Line → Env
  | .host ws => { e with inbox := e.inbox ++ ws.map fun w => .move (.host w) }
  | .event c => { e with inbox := e.inbox ++ [.move (.event c)] }
  | .lcdClocks bs => { e with lcdStream := e.lcdStream ++ bs.map Wire.byte }
  | .lcdEnd bs => { e with dones := e.dones ++ [.done bs], inbox := e.inbox ++ [.move (.event 0b10#2)] }
  | .pbReturns bs => { e with pbStream := e.pbStream ++ bs.map PbReply.byte }
  | .failLcd i => { e with lcdStream := e.lcdStream.take (i - 1) ++ .fail :: e.lcdStream.drop (i - 1) }
  | .failStart => { e with starts := e.starts ++ [.fail] }
  | .failPb k => { e with pbStream := e.pbStream.take (k - 1) ++ .fail :: e.pbStream.drop (k - 1) }
  | .steps n => { e with inbox := e.inbox ++ List.replicate n (.move .controller) }

/-- A scenario written into the environment of a state. -/
def State.scenario (s : State) (ls : List Line) : State := s.withEnv (ls.foldl Env.add s.env)

end Sys2Proof.Machine
end

