-- ==== Sys2Proof/Tests/Slice0.lean ====
section
/-! SUPPORT. Tests in the spec's test instantiation TI (95_test_vectors.md section 0): ill-formed terms and refused
configurations, one word of each row, one-step vectors, and for every obligation with hypotheses a state that meets them.
Expected values are the spec's vectors, named in each section. -/

namespace Sys2Proof.Tests

open Machine

/-! The frames of 95_test_vectors.md section 0. -/

def l1 : List Byte := [0xA5#8, 0x01#8, 0x02#8, 0x03#8, 0xAB#8]
def l2 : List Byte := [0xA5#8, 0x07#8, 0x08#8, 0x09#8, 0xBD#8]
def l1x : List Byte := [0xA5#8, 0x01#8, 0x02#8, 0x03#8, 0xAC#8]
def lw : List Byte := [0xA5#8, 0xFF#8, 0xFF#8, 0xFF#8, 0xA2#8]
def lm : List Byte := [0x00#8, 0x01#8, 0x02#8, 0x03#8, 0x06#8]
def p1f : List Byte := [0x5A#8, 0x11#8, 0x22#8, 0x33#8, 0xC0#8]
def p2f : List Byte := [0x5A#8, 0x10#8, 0x20#8, 0x30#8, 0xBA#8]
def p2x : List Byte := [0x5A#8, 0x10#8, 0x20#8, 0x30#8, 0xBB#8]
def tplLcd : List Byte := [0x5A#8, 0x00#8, 0x00#8, 0x00#8, 0x5A#8]
def tplPb : List Byte := [0xA5#8, 0x00#8, 0x00#8, 0x00#8, 0xA5#8]
def zeros : List Byte := [0x00#8, 0x00#8, 0x00#8, 0x00#8, 0x00#8]

/-! The configuration TI, its checksum and identity hook stated at the frames used here. -/

def tiRaw (race : RaceMode) (k : Nat) (tail : SyncTail) : RawParams where
  block := 0
  n := 5
  markerLcd := 0xA5#8
  markerPb := 0x5A#8
  chkKnown :=
    [((.lcd, l1.take 4), 0xAB#8), ((.lcd, l2.take 4), 0xBD#8), ((.lcd, lw.take 4), 0xA2#8), ((.lcd, lm.take 4), 0x06#8),
     ((.lcd, [0xA5#8, 0x02#8, 0x01#8, 0x03#8]), 0xAB#8),
     ((.pb, p1f.take 4), 0xC0#8), ((.pb, p2f.take 4), 0xBA#8), ((.pb, zeros.take 4), 0x00#8)]
  tplLcdTx := tplLcd
  tplLcdRx := zeros
  tplPbTx := tplPb
  tplPbRx := zeros
  paceDelay := 1000
  retryDelay := 1000
  maxAttempts := k
  syncTail := tail
  race := race
  hookKnown :=
    [((.lcd2pb, ⟨0⟩, l1), l1), ((.lcd2pb, ⟨0⟩, l2), l2), ((.lcd2pb, ⟨0⟩, lm), lm),
     ((.pb2lcd, ⟨0⟩, p1f), p1f), ((.pb2lcd, ⟨0⟩, p2f), p2f)]
  dbgBtnIdx := 1
  dbgMap := [(0x07#8, 2)]

def ti : Params := ⟨tiRaw .exact 3 .txTail, by decide⟩
def tiAny : Params := ⟨tiRaw .anyPending 3 .txTail, by decide⟩
def tiZeros : Params := ⟨tiRaw .exact 3 .zeros, by decide⟩
def tiOnce : Params := ⟨tiRaw .exact 1 .txTail, by decide⟩

/-- The machine after POR in a configuration. -/
def start (p : Params) : State :=
  { State.reset with par := p, ruleset := ⟨0⟩, lcdInflightTx := List.replicate p.n 0x00#8 }

/-- The state in a state code and phase. -/
def inState (st : BitVec 4) (op : BitVec 3) (s : State) : State := s.goto st op

def withInbox (l : List Stimulus) (s : State) : State := { s with env := { s.env with inbox := l } }
def withLcd (l : List Wire) (s : State) : State := { s with env := { s.env with lcdStream := l } }
def withPb (l : List PbReply) (s : State) : State := { s with env := { s.env with pbStream := l } }
def withStarts (l : List Status) (s : State) : State := { s with env := { s.env with starts := l } }
def withDones (l : List Completion) (s : State) : State := { s with env := { s.env with dones := l } }

/-- What an observation of the next state gives, where there is a next state. -/
def see {α : Type} (o : Host.Outcome State Fault Refusal) (f : State → α) : Option α :=
  match o with
  | .next t => some (f t)
  | _ => none

def isNext (o : Host.Outcome State Fault Refusal) : Bool := (see o fun _ => ()).isSome

/-! Ill-formed terms and refused configurations: one for each check. -/

/-- An allowed pair (43 R99) and a halt code (30 R59) are no STEP_HOLD_PAIR. -/
theorem test_wf_refuses_allowed_pair : (Instr.stepHoldPair 1#3 0x1#4).wf = false := by decide
theorem test_wf_refuses_halt_code : (Instr.stepHoldPair 7#3 0xC#4).wf = false := by decide

/-- `N` outside `2..255` (00 R5). -/
theorem test_n_1_refused : ({ tiRaw .exact 3 .txTail with n := 1 } : RawParams).sizeOk = false := by decide
theorem test_n_256_refused : ({ tiRaw .exact 3 .txTail with n := 256 } : RawParams).sizeOk = false := by decide
/-- Equal markers (00 R6). -/
theorem test_equal_markers_refused :
    ({ tiRaw .exact 3 .txTail with markerPb := 0xA5#8 } : RawParams).legal = false := by decide
/-- A template of another length (00 R8). -/
theorem test_short_template_refused :
    ({ tiRaw .exact 3 .txTail with tplPbRx := [0x00#8] } : RawParams).legal = false := by decide
/-- `K` outside `1..255` (00 R10). -/
theorem test_k_0_refused : (tiRaw .exact 0 .txTail).legal = false := by decide
theorem test_k_256_refused : (tiRaw .exact 256 .txTail).legal = false := by decide
/-- A HOOK result of another length (00 R17, 93 item 24). -/
theorem test_short_hook_refused :
    ({ tiRaw .exact 3 .txTail with hookKnown := [((.lcd2pb, ⟨0⟩, l1), [0xA5#8])] } : RawParams).legal = false := by
  decide
/-- DBG_BTN_IDX and the indexes of DBG_MAP outside `1..N-2` (00 R18). -/
theorem test_button_0_refused : ({ tiRaw .exact 3 .txTail with dbgBtnIdx := 0 } : RawParams).legal = false := by decide
theorem test_button_4_refused : ({ tiRaw .exact 3 .txTail with dbgBtnIdx := 4 } : RawParams).legal = false := by decide
theorem test_map_4_refused :
    ({ tiRaw .exact 3 .txTail with dbgMap := [(0x07#8, 4)] } : RawParams).legal = false := by decide

/-! One word of every row, written out from 30_encoding.md section 5 (and log 13 for the operands of INTERNAL rows). -/

/-- STATE rows: {OP[6:4], STATE[3:0]} (30 R58, R71). -/
theorem test_words_of_state_rows :
    decode (.state 0b0000000#7) = .ok .stepInit ∧
    decode (.state 0b0010001#7) = .ok .stepSyncpbProbe ∧
    decode (.state 0b0100001#7) = .ok .stepSyncpbDelay ∧
    decode (.state 0b0000010#7) = .ok .stepSyncedpb ∧
    decode (.state 0b0110011#7) = .ok .stepSynclcdProbe ∧
    decode (.state 0b1000011#7) = .ok .stepSynclcdTail ∧
    decode (.state 0b0000100#7) = .ok .stepSyncedlcd ∧
    decode (.state 0b0000101#7) = .ok .stepIdle ∧
    decode (.state 0b0000110#7) = .ok .stepRequestlcd ∧
    decode (.state 0b0000111#7) = .ok .stepAwaitinglcd := by decide
theorem test_words_of_later_state_rows :
    decode (.state 0b0001000#7) = .ok .stepLcdreceived ∧
    decode (.state 0b1011001#7) = .ok .stepRequestpbXfer ∧
    decode (.state 0b1101001#7) = .ok .stepRequestpbDelay ∧
    decode (.state 0b0001010#7) = .ok .stepAwaitingpb ∧
    decode (.state 0b0001011#7) = .ok .stepPbreceived ∧
    decode (.state 0b1101100#7) = .ok (.stepHalt 6#3) ∧
    decode (.state 0b0001101#7) = .ok (.stepHaltD 0#3) ∧
    decode (.state 0b0111110#7) = .ok (.stepHaltEF 3#3 0#1) ∧
    decode (.state 0b1111111#7) = .ok (.stepHaltEF 7#3 1#1) ∧
    decode (.state 0b1010101#7) = .ok (.stepHoldPair 5#3 0x5#4) ∧
    decode (.state 0b0000001#7) = .ok (.stepHoldPair 0#3 0x1#4) := by decide

/-- HOSTBUS rows: {WE[12], ADDR[11:8], DATA[7:0]} (30 R61, R62; words of 95_test_vectors.md section 2.5). -/
theorem test_words_of_host_reads :
    decode (.hostbus 0x0000#13) = .ok (.rdCtrl 0x00#8) ∧
    decode (.hostbus 0x0100#13) = .ok (.rdCmd 0x00#8) ∧
    decode (.hostbus 0x0200#13) = .ok (.rdStatus 0x00#8) ∧
    decode (.hostbus 0x0300#13) = .ok (.rdErrLcd 0x00#8) ∧
    decode (.hostbus 0x0400#13) = .ok (.rdErrPb 0x00#8) ∧
    decode (.hostbus 0x0500#13) = .ok (.rdFaultCause 0x00#8) ∧
    decode (.hostbus 0x0600#13) = .ok (.rdReserved67 0#1 0x00#8) ∧
    decode (.hostbus 0x07FF#13) = .ok (.rdReserved67 1#1 0xFF#8) ∧
    decode (.hostbus 0x0F00#13) = .ok (.rdReserved8F 7#3 0x00#8) := by decide
theorem test_words_of_host_writes :
    decode (.hostbus 0x1001#13) = .ok (.wrCtrl 0x01#8) ∧
    decode (.hostbus 0x1103#13) = .ok (.wrCmdSrst 1#7) ∧
    decode (.hostbus 0x1100#13) = .ok (.wrCmdNop 0#7) ∧
    decode (.hostbus 0x12FF#13) = .ok (.wrRo23 0#1 0xFF#8) ∧
    decode (.hostbus 0x1300#13) = .ok (.wrRo23 1#1 0x00#8) ∧
    decode (.hostbus 0x1400#13) = .ok (.wrRo45 0#1 0x00#8) ∧
    decode (.hostbus 0x1500#13) = .ok (.wrRo45 1#1 0x00#8) ∧
    decode (.hostbus 0x1700#13) = .ok (.wrReserved67 1#1 0x00#8) ∧
    decode (.hostbus 0x1F55#13) = .ok (.wrReserved8F 7#3 0x55#8) := by decide

/-- EVENT rows (30 R69). -/
theorem test_words_of_events :
    decode (.event 0b00#2) = .ok .evPor ∧ decode (.event 0b01#2) = .ok .evSrst ∧
    decode (.event 0b10#2) = .ok .evDoneLcd ∧ decode (.event 0b11#2) = .ok .evDonePb := by decide

/-- INTERNAL rows: the uop in bits 3:0 (30 R71), the model's operands above it (log 13). -/
theorem test_words_of_internal_rows :
    decode (.internal 0b000000110001#12) = .ok (.checksum .pb .lcdRx) ∧
    decode (.internal 0b000001100010#12) = .ok (.valid .lcd .pbRx) ∧
    decode (.internal 0b000010010011#12) = .ok (.copy .lcdRx .pbTx) ∧
    decode (.internal 0b000000010100#12) = .ok (.probe .pb) ∧
    decode (.internal 0b000000000101#12) = .ok .burstSync ∧
    decode (.internal 0b000000000110#12) = .ok .burstStart ∧
    decode (.internal 0b000001000111#12) = .ok (.pacedByte 0x04#8) ∧
    decode (.internal 0b000000011000#12) = .ok (.delay .retry) ∧
    decode (.internal 0b000000011001#12) = .ok (.hookApply .pb2lcd) ∧
    decode (.internal 0b000000001010#12) = .ok .debugHook ∧
    decode (.internal 0b000001001011#12) = .ok (.pbLand 0x04#8) := by decide

/-- Words that are no row are refused by name: a uop without a row, an operand a row does not have, too many bits. -/
theorem test_refused_words :
    decode (.internal 0x000#12) = .error (.undefinedUop 0#4) ∧
    decode (.internal 0xFFC#12) = .error (.undefinedUop 12#4) ∧
    decode (.internal 0x015#12) = .error (.strayOperand 5#4) ∧
    decodeBits .state 0x80 = .error .tooWide := by decide

/-! One-step vectors of 95_test_vectors.md section 2. -/

/-- PM1, PM2, PM3: sums with and without wrap; the checksum byte is no input. -/
theorem test_checksum :
    see (exec (.checksum .lcd .lcdRx) ((start ti).writeBuf .lcdRx l1)) (·.opResult) = some (some 0xAB#8) ∧
    see (exec (.checksum .lcd .lcdRx) ((start ti).writeBuf .lcdRx lw)) (·.opResult) = some (some 0xA2#8) ∧
    see (exec (.checksum .pb .pbRx) ((start ti).writeBuf .pbRx p2x)) (·.opResult) = some (some 0xBA#8) := by decide
/-- PM4, PM5, PM6: valid, invalid, a wrong marker, body bytes swapped. -/
theorem test_valid :
    see (exec (.valid .lcd .lcdRx) ((start ti).writeBuf .lcdRx l1)) (·.opResult) = some (some 0x01#8) ∧
    see (exec (.valid .lcd .lcdRx) ((start ti).writeBuf .lcdRx l1x)) (·.opResult) = some (some 0x00#8) ∧
    see (exec (.valid .lcd .lcdRx) ((start ti).writeBuf .lcdRx lm)) (·.opResult) = some (some 0x01#8) ∧
    see (exec (.valid .lcd .pbTx) ((start ti).writeBuf .pbTx [0xA5#8, 0x02#8, 0x01#8, 0x03#8, 0xAB#8])) (·.opResult) =
      some (some 0x01#8) := by decide
/-- PM8, PM9, PM10: a copy, a copy onto itself, a copy of an invalid frame. -/
theorem test_copy :
    see (exec (.copy .lcdRx .pbTx) ((start ti).writeBuf .lcdRx l2)) (fun t => (t.readBuf .pbTx, t.readBuf .lcdTx)) =
      some (l2, tplLcd) ∧
    see (exec (.copy .pbRx .pbRx) ((start ti).writeBuf .pbRx p1f)) (·.readBuf .pbRx) = some p1f ∧
    see (exec (.copy .pbRx .lcdTx) ((start ti).writeBuf .pbRx p2x)) (·.readBuf .lcdTx) = some p2x := by decide

/-- TE1 and TE4: an LCD probe, and a failed one. -/
theorem test_probe_lcd :
    see (exec (.probe .lcd) (withLcd [.byte 0xA5#8] (start ti))) (fun t => (t.bufByte .lcdRx 0, t.opResult, t.trace)) =
      some (0xA5#8, some 0xA5#8, [.xfer .lcd .probe [0x00#8] .ok (some [0xA5#8])]) ∧
    see (exec (.probe .lcd) (withLcd [.fail] (start ti))) (fun t => (t.bufByte .lcdRx 0, t.faulted, t.faultCause)) =
      some (0x00#8, true, 0x11#8) := by decide
/-- TE5, TE6, TE7: a PB probe in both race modes, and a failed one. -/
theorem test_probe_pb :
    see (exec (.probe .pb) (withPb [.byte 0x5A#8] (start ti))) (fun t => (t.bufByte .pbRx 0, t.opResult)) =
      some (0x5A#8, some 0x5A#8) ∧
    see (exec (.probe .pb) (withPb [.byte 0x5A#8] (start tiAny))) (fun t => (t.bufByte .pbRx 0, t.slot 0, t.opResult)) =
      some (0x00#8, some 0x5A#8, some 0x5A#8) ∧
    see (exec (.probe .pb) (withPb [.fail] (start ti))) (·.faultCause) = some 0x21#8 := by decide
/-- TE8, TE9: the tail of the synchronization, with both settings of SYNC_TAIL_TX. -/
theorem test_burst_sync :
    see (exec .burstSync (withLcd [.byte 0x01#8, .byte 0x02#8, .byte 0x03#8, .byte 0xAB#8] (start ti)))
        (fun t => (t.readBuf .lcdRx, t.trace)) =
      some ([0x00#8, 0x01#8, 0x02#8, 0x03#8, 0xAB#8],
        [.xfer .lcd .burstSync [0x00#8, 0x00#8, 0x00#8, 0x5A#8] .ok (some [0x01#8, 0x02#8, 0x03#8, 0xAB#8])]) ∧
    see (exec .burstSync (withLcd [.byte 0x01#8, .byte 0x02#8, .byte 0x03#8, .byte 0xAB#8] (start tiZeros))) (·.trace) =
      some [.xfer .lcd .burstSync [0x00#8, 0x00#8, 0x00#8, 0x00#8] .ok (some [0x01#8, 0x02#8, 0x03#8, 0xAB#8])] := by
  decide
/-- TE10, TE11: too few bytes hold and are kept; a failure lands nothing. -/
theorem test_burst_sync_waits_or_fails :
    see (exec .burstSync (withLcd [.byte 0x01#8, .byte 0x02#8, .quiet] (start ti)))
        (fun t => (t.trace, t.readBuf .lcdRx, t.env.lcdStream)) = some ([], zeros, [.byte 0x01#8, .byte 0x02#8]) ∧
    see (exec .burstSync (withLcd [.byte 0x01#8, .fail] (start ti))) (fun t => (t.faultCause, t.readBuf .lcdRx)) =
      some (0x12#8, zeros) := by decide
/-- Log 41: a pending soft reset stays latched while a datapath row runs on its own. -/
theorem test_datapath_keeps_soft_reset :
    see (step (withInbox [.datapath 0x008#12] { inState 0x5#4 0#3 (start ti) with srstPending := true }))
      (fun t => (t.srstPending, t.stateReg, t.trace)) = some (true, 0x5#4, [.delay 1000]) := by decide
/-- TE12, TE13. -/
theorem test_burst_start :
    see (exec .burstStart (withStarts [.ok] ((start ti).writeBuf .lcdTx p1f)))
      (fun t => (t.lcdBusy, t.lcdInflightTx, t.trace)) =
      some (true, p1f, [.xfer .lcd .burstStart p1f .ok (some [])]) ∧
    see (exec .burstStart (withStarts [.fail] (start ti))) (fun t => (t.faultCause, t.lcdBusy)) =
      some (0x13#8, false) := by decide
/-- TE21's last call: byte `N-1` of the Paced exchange fails and is not landed. -/
theorem test_paced_byte :
    see (exec (.pacedByte 0x04#8) (withPb [.byte 0xC0#8] ((start ti).writeBuf .pbTx l2)))
        (fun t => (t.bufByte .pbRx 4, t.trace)) =
      some (0xC0#8, [.xfer .pb .pacedByte [0xBD#8] .ok (some [0xC0#8])]) ∧
    see (exec (.pacedByte 0x04#8) (withPb [.fail] (start ti))) (fun t => (t.faultCause, t.readBuf .pbRx)) =
      some (0x24#8, zeros) := by decide
/-- TE22. -/
theorem test_delay : see (exec (.delay .retry) (start ti)) (·.trace) = some [.delay 1000] := by decide
/-- RC4: the older byte lands before the newer one waits; and 20 R51's landing of a chosen slot. -/
theorem test_pb_pending :
    see (exec (.pacedByte 0x04#8) (withPb [.byte 0xCC#8] ((start tiAny).withPending [(4, 0xBA#8)])))
        (fun t => (t.bufByte .pbRx 4, t.slot 4, t.trace.drop 1)) =
      some (0xBA#8, some 0xCC#8, [.land .pb 4 [0xBA#8]]) ∧
    see (exec (.pbLand 0x04#8) ((start tiAny).withPending [(4, 0xBA#8)])) (fun t => (t.bufByte .pbRx 4, t.pbPending)) =
      some (0xBA#8, []) := by decide

/-- FS1, FS3 and FS4: the marker at once, at the K-th probe, and never. -/
theorem test_syncpb_ends :
    see (exec .stepSyncpbProbe (withPb [.byte 0x5A#8] (inState 0x1#4 1#3 (start ti))))
        (fun t => (t.stateReg, t.op, t.pbSynced, t.attempt)) = some (0x2#4, 0#3, true, 0x01#8) ∧
    see (exec .stepSyncpbProbe (withPb [.byte 0x5A#8] { inState 0x1#4 1#3 (start ti) with attempt := 0x02#8 }))
        (fun t => (t.stateReg, t.pbSynced, t.attempt)) = some (0x2#4, true, 0x03#8) ∧
    see (exec .stepSyncpbProbe (withPb [.byte 0x22#8] { inState 0x1#4 1#3 (start ti) with attempt := 0x02#8 }))
        (fun t => (t.stateReg, t.pbSynced, t.attempt, t.bufByte .pbRx 0)) =
      some (0x2#4, false, 0x03#8, 0x22#8) := by decide
/-- FS2, FS6 and FS7: another byte, a failure, the LCD's marker. -/
theorem test_syncpb_goes_on :
    see (exec .stepSyncpbProbe (withPb [.byte 0x00#8] (inState 0x1#4 1#3 (start ti))))
        (fun t => (t.stateReg, t.op, t.attempt)) = some (0x1#4, 2#3, 0x01#8) ∧
    see (exec .stepSyncpbProbe (withPb [.fail] { inState 0x1#4 1#3 (start ti) with attempt := 0x01#8 }))
        (fun t => (t.faultCause, t.stateReg, t.op, t.attempt)) = some (0x21#8, 0x1#4, 1#3, 0x01#8) ∧
    see (exec .stepSyncpbProbe (withPb [.byte 0xA5#8] (inState 0x1#4 1#3 (start ti)))) (·.op) = some 2#3 := by decide
/-- 42 R92. -/
theorem test_syncpb_delay :
    see (exec .stepSyncpbDelay (inState 0x1#4 2#3 (start ti))) (fun t => (t.stateReg, t.op, t.trace)) =
      some (0x1#4, 1#3, [.delay 1000]) := by decide
/-- FS8, V1.3: noise, then the marker. -/
theorem test_synclcd_probe :
    see (exec .stepSynclcdProbe (withLcd [.byte 0x13#8] (inState 0x3#4 3#3 (start ti)))) (fun t => (t.stateReg, t.op)) =
      some (0x3#4, 3#3) ∧
    see (exec .stepSynclcdProbe (withLcd [.byte 0xA5#8] (inState 0x3#4 3#3 (start ti)))) (fun t => (t.stateReg, t.op)) =
      some (0x3#4, 4#3) := by decide
/-- FS8, FS9: a valid tail ends the scan, an invalid one starts it again without counting. -/
theorem test_synclcd_tail :
    see (exec .stepSynclcdTail (withLcd (l1.tail.map Wire.byte)
        ((inState 0x3#4 4#3 (start ti)).writeByte 5 0xA5#8))) (fun t => (t.stateReg, t.op, t.readBuf .lcdRx)) =
      some (0x4#4, 0#3, l1) ∧
    see (exec .stepSynclcdTail (withLcd (l1x.tail.map Wire.byte)
        ((inState 0x3#4 4#3 (start ti)).writeByte 5 0xA5#8)))
        (fun t => (t.stateReg, t.op, t.errLcd, t.trace.drop 1)) =
      some (0x3#4, 3#3, 0x00#8, [.chkFail .lcd .sync]) := by decide

/-- SM1. -/
theorem test_init : see (exec .stepInit { start ti with attempt := 0x02#8 }) (fun t => (t.stateReg, t.op, t.attempt)) =
    some (0x1#4, 1#3, 0x00#8) := by decide
/-- SM2. -/
theorem test_syncedpb :
    see (exec .stepSyncedpb (inState 0x2#4 0#3 (start ti))) (fun t => (t.stateReg, t.op)) = some (0x3#4, 3#3) := by
  decide
/-- SM3, SM4. -/
theorem test_syncedlcd_idle :
    see (exec .stepSyncedlcd (inState 0x4#4 0#3 (start ti))) (·.stateReg) = some 0x6#4 ∧
    see (exec .stepIdle (inState 0x5#4 0#3 (start ti))) (·.stateReg) = some 0x6#4 := by decide
/-- SM5, SM7: the start succeeds; it fails, with STATUS 0x37. -/
theorem test_requestlcd :
    see (exec .stepRequestlcd (withStarts [.ok] (inState 0x6#4 0#3 ((start ti).writeBuf .lcdTx p1f))))
        (fun t => (t.stateReg, t.lcdBusy, t.lcdInflightTx)) = some (0x7#4, true, p1f) ∧
    see (exec .stepRequestlcd (withStarts [.fail] { inState 0x6#4 0#3 (start ti) with pbSynced := true }))
        (fun t => (t.faultCause, t.statusReg)) = some (0x13#8, 0x37#8) := by decide
/-- SM9, SM10, SM11, SM12. -/
theorem test_lcdreceived :
    see (exec .stepLcdreceived (inState 0x8#4 0#3 ((start ti).writeBuf .lcdRx l2)))
        (fun t => (t.readBuf .pbTx, t.trace, t.idx, t.op, t.stateReg)) =
      some (l2, [.hook .lcd2pb l2 l2], 0x00#8, 5#3, 0x9#4) ∧
    see (exec .stepLcdreceived { inState 0x8#4 0#3 ((start ti).writeBuf .lcdRx l1x) with errLcd := 0x04#8 })
        (fun t => (t.readBuf .pbTx, t.errLcd, t.trace, t.stateReg)) =
      some (tplPb, 0x05#8, [.chkFail .lcd .steady], 0x9#4) ∧
    see (exec .stepLcdreceived { inState 0x8#4 0#3 ((start ti).writeBuf .lcdRx l1x) with errLcd := 0xFF#8 })
        (·.errLcd) = some 0x00#8 ∧
    see (exec .stepLcdreceived (inState 0x8#4 0#3 ((start ti).writeBuf .lcdRx lm))) (·.readBuf .pbTx) = some lm := by
  decide
/-- SM13, SM14, SM15: the debug hook counts for a mapped code of a valid frame only. -/
theorem test_lcdreceived_debug :
    see (exec .stepLcdreceived
        { ((start ti).writeBuf .lcdRx l2).writeBuf .lcdTx p1f with debugEn := true, stateReg := 0x8#4 })
        (·.readBuf .lcdTx) = some [0x5A#8, 0x11#8, 0x23#8, 0x33#8, 0xC0#8] ∧
    see (exec .stepLcdreceived
        { ((start ti).writeBuf .lcdRx l1).writeBuf .lcdTx p1f with debugEn := true, stateReg := 0x8#4 })
        (·.readBuf .lcdTx) = some p1f ∧
    see (exec .stepLcdreceived
        { ((start ti).writeBuf .lcdRx [0xA5#8, 0x07#8, 0x08#8, 0x09#8, 0xBE#8]).writeBuf .lcdTx p1f with
          debugEn := true, stateReg := 0x8#4 })
        (fun t => (t.readBuf .lcdTx, t.errLcd)) = some (p1f, 0x01#8) := by decide
/-- SM16 (43 R114), and a HOOK_APPLY of the identity (43 R113). -/
theorem test_hooks :
    see (exec .debugHook { ((start ti).writeBuf .lcdRx l2).writeByte 2 0xFF#8 with debugEn := true })
        (·.bufByte .lcdTx 2) = some 0x00#8 ∧
    see (exec (.hookApply .pb2lcd) ((start ti).writeBuf .lcdTx p1f)) (fun t => (t.readBuf .lcdTx, t.trace)) =
      some (p1f, [.hook .pb2lcd p1f p1f]) := by decide
/-- SM17, and an earlier byte (43 R108). -/
theorem test_requestpb_xfer :
    see (exec .stepRequestpbXfer (withPb [.byte 0xC0#8] { inState 0x9#4 5#3 (start ti) with idx := 0x04#8 }))
        (fun t => (t.bufByte .pbRx 4, t.op, t.stateReg)) = some (0xC0#8, 0#3, 0xB#4) ∧
    see (exec .stepRequestpbXfer (withPb [.byte 0x33#8] { inState 0x9#4 5#3 (start ti) with idx := 0x03#8 }))
        (fun t => (t.bufByte .pbRx 3, t.op, t.stateReg)) = some (0x33#8, 6#3, 0x9#4) := by decide
/-- SM18. -/
theorem test_requestpb_delay :
    see (exec .stepRequestpbDelay { inState 0x9#4 6#3 (start ti) with idx := 0x01#8 })
        (fun t => (t.idx, t.op, t.trace)) = some (0x02#8, 5#3, [.delay 1000]) := by decide
/-- SM19, SM20. -/
theorem test_pbreceived :
    see (exec .stepPbreceived (inState 0xB#4 0#3 ((start ti).writeBuf .pbRx p1f)))
        (fun t => (t.readBuf .lcdTx, t.indHeart, t.stateReg)) = some (p1f, true, 0x5#4) ∧
    see (exec .stepPbreceived (inState 0xB#4 0#3 ((start ti).writeBuf .pbRx p2x)))
        (fun t => (t.readBuf .lcdTx, t.errPb, t.indHeart, t.stateReg)) = some (tplLcd, 0x01#8, true, 0x5#4) := by decide

/-- TE14, TE15, TE18: END accepted, END discarded by the guard, DONE(LCD) discarded while faulted. -/
theorem test_done_lcd :
    see (exec .evDoneLcd (withDones [.done l2] { inState 0x7#4 0#3 (start ti) with lcdBusy := true }))
        (fun t => (t.readBuf .lcdRx, t.lcdBusy, t.stateReg, t.trace.drop 1)) =
      some (l2, false, 0x8#4, [.done .lcd true]) ∧
    see (exec .evDoneLcd (withDones [.done l1] { inState 0x6#4 0#3 (start ti) with lcdBusy := true }))
        (fun t => (t.readBuf .lcdRx, t.lcdBusy, t.stateReg, t.trace.drop 1)) =
      some (l1, false, 0x6#4, [.done .lcd false]) ∧
    see (exec .evDoneLcd { inState 0x7#4 0#3 (start ti) with lcdBusy := true, faulted := true })
        (fun t => (t.lcdBusy, t.stateReg, t.trace)) = some (true, 0x7#4, [.done .lcd false]) := by decide
/-- TE16, TE17: SPURIOUS in AwaitingLCD and in Idle. -/
theorem test_done_lcd_spurious :
    see (exec .evDoneLcd (withDones [.spurious] { inState 0x7#4 0#3 ((start ti).writeBuf .lcdRx l1) with
        lcdBusy := true })) (fun t => (t.stateReg, t.readBuf .lcdRx, t.lcdBusy)) = some (0x8#4, l1, true) ∧
    see (exec .evDoneLcd (inState 0x5#4 0#3 (start ti))) (fun t => (t.stateReg, t.trace)) =
      some (0x5#4, [.done .lcd false]) := by decide
/-- HI17, HI18, RS1. -/
theorem test_other_events :
    see (exec .evDonePb (inState 0x7#4 0#3 (start ti))) (fun t => (t.stateReg, t.trace)) =
      some (0x7#4, [.done .pb false]) ∧
    see (exec .evSrst (inState 0x5#4 0#3 (start ti))) (fun t => (t.stateReg, t.srstPending)) = some (0x5#4, true) ∧
    see (exec .evPor { inState 0x9#4 5#3 ((start ti).writeBuf .lcdTx p1f) with faulted := true, faultCause := 0x24#8 })
        (fun t => (t.statusReg, t.faultCause, t.readBuf .lcdTx, t.readBuf .pbTx)) =
      some (0x00#8, 0x00#8, tplLcd, tplPb) := by decide
/-- HI4, HI5 and SM22: STATUS. -/
theorem test_read_status :
    see (exec (.rdStatus 0x00#8) { inState 0x9#4 5#3 (start ti) with pbSynced := true }) (·.readData) =
      some (some 0x19#8) ∧
    see (exec (.rdStatus 0x00#8) { inState 0x3#4 3#3 (start ti) with faulted := true }) (·.readData) =
      some (some 0x23#8) ∧
    see (exec (.rdStatus 0x00#8) { inState 0xE#4 0#3 (start ti) with pbSynced := true }) (·.readData) =
      some (some 0x5E#8) := by decide
/-- HI1, HI2, HI6, HI7, HI8, HI9. -/
theorem test_other_reads :
    see (exec (.rdCtrl 0xFF#8) { start ti with debugEn := true }) (·.readData) = some (some 0x01#8) ∧
    see (exec (.rdCmd 0x00#8) { start ti with srstPending := true }) (·.readData) = some (some 0x00#8) ∧
    see (exec (.rdErrLcd 0x00#8) { start ti with errLcd := 0x05#8 }) (·.readData) = some (some 0x05#8) ∧
    see (exec (.rdErrPb 0x00#8) { start ti with errPb := 0x01#8 }) (·.readData) = some (some 0x01#8) ∧
    see (exec (.rdFaultCause 0x00#8) { start ti with faultCause := 0x24#8 }) (·.readData) = some (some 0x24#8) ∧
    see (exec (.rdReserved8F 7#3 0x00#8) { start ti with errPb := 0x01#8 }) (·.readData) = some (some 0x00#8) := by
  decide
/-- HI10, HI11, HI12. -/
theorem test_host_writes :
    see (exec (.wrCtrl 0x01#8) (start ti)) (·.debugEn) = some true ∧
    see (exec (.wrCtrl 0xFE#8) { start ti with debugEn := true }) (·.debugEn) = some false ∧
    see (exec (.wrCmdSrst 0#7) (start ti)) (·.srstPending) = some true ∧
    see (exec (.wrRo23 1#1 0x00#8) { start ti with errLcd := 0x05#8 }) (·.errLcd) = some 0x05#8 := by decide

/-! Witnesses: for each obligation with hypotheses, states and operands that meet them together, at the boundary values of
its clauses. -/

def ctl (s : State) : State := withInbox [.move .controller] s
def busy (s : State) : State := { s with lcdBusy := true }
def broken (s : State) : State := { s with faulted := true, faultCause := 0x24#8 }

theorem witness_DecodeOfEncode : (Instr.stepHoldPair 0#3 0xB#4).wf = false ∧ (Instr.stepHoldPair 7#3 0xB#4).wf = true ∧
    (Instr.pbLand 0xFF#8).wf = true := by decide
theorem witness_EncodeOfDecode : decode (.hostbus 0x1FFF#13) = .ok (.wrReserved8F 7#3 0xFF#8) ∧
    decode (.internal 0xFFB#12) = .ok (.pbLand 0xFF#8) := by decide
theorem witness_SelectorsOutside : (isHalt 0xB#4 = false ∧ allowedPair 0xB#4 7#3 = false) ∧ allowedPair 0xB#4 0#3 = true ∧
    isHalt 0xC#4 = true ∧ isHalt 0xF#4 = true := by decide

/-- One state for each kind of stimulus at the head of the inbox, and one with none. -/
theorem witness_StepRuns :
    ((ctl (start ti)).env.inbox = .move .controller :: [] ∧ (ctl (start ti)).faulted = false ∧
      (ctl (start ti)).srstPending = false ∧ decode (.state (ctl (start ti)).selector) = .ok .stepInit) ∧
    decode (.hostbus 0x1001#13) = .ok (.wrCtrl 0x01#8) ∧ decode (.event 0b11#2) = .ok .evDonePb ∧
    (withInbox [.move (.pbPort 0x04#8)] (start ti)).env.inbox = .move (.pbPort 0x04#8) :: [] ∧
    decode (.internal 0x005#12) = .ok .burstSync ∧ (start ti).env.inbox = [] := by decide
theorem witness_PlacedWord : decodeTableWord 8 0x7B = some (.stepHoldPair 7#3 0xB#4) ∧
    decodeTableWord 16 0x1FFF = some (.wrReserved8F 7#3 0xFF#8) ∧ decodeTableWord 2 3 = some .evDonePb ∧
    decodeTableWord 4 0xB = some (.pbLand 0x00#8) := by decide
theorem witness_SoftReset :
    ((ctl (broken (start ti))).env.inbox = .move .controller :: [] ∧ (ctl (broken (start ti))).faulted = true) ∧
    (ctl { start ti with srstPending := true }).faulted = false ∧
    (ctl { start ti with srstPending := true }).srstPending = true := by decide
/-- SM8, SM21, SM22, SM24: the four kinds of hold. -/
theorem witness_Holding :
    (inState 0x7#4 0#3 (start ti)).stateReg = St.awaitingLcd ∧ (inState 0xA#4 0#3 (start ti)).stateReg = St.awaitingPb ∧
    isHalt (inState 0xC#4 0#3 (start ti)).stateReg = true ∧ isHalt (inState 0xF#4 7#3 (start ti)).stateReg = true ∧
    allowedPair (inState 0x5#4 5#3 (start ti)).stateReg (inState 0x5#4 5#3 (start ti)).op = false ∧
    (ctl (inState 0x5#4 5#3 (start ti))).srstPending = false := by decide

/-- A step with an effect, a step that is a RULESET change, and a power-on reset. -/
theorem witness_step : ∃ t, step (ctl (start ti)) = .next t := ⟨_, rfl⟩
theorem witness_step_ruleset : ∃ t, step (withInbox [.move (.setRuleset ⟨7⟩)] (start ti)) = .next t ∧ t.ruleset = ⟨7⟩ :=
  ⟨_, rfl, rfl⟩
theorem witness_step_por : ∃ t, step (withInbox [.move (.event 0b00#2)] (broken (start ti))) = .next t ∧ t.trace = [] ∧
    t.faulted = false := ⟨_, rfl, rfl, rfl⟩
/-- OnlyPowerOnLeavesAFault, CountersOnlyCountUp, UnusedCodesAreNeverEntered: a faulted state that steps, a step that
counts, a code in use. -/
theorem witness_faulted_step : (ctl (broken (start ti))).faulted = true ∧ ∃ t, step (ctl (broken (start ti))) = .next t :=
  ⟨rfl, _, rfl⟩
theorem witness_counting_step :
    see (step (ctl { inState 0x8#4 0#3 ((start ti).writeBuf .lcdRx l1x) with errLcd := 0xFF#8 })) (·.errLcd) =
      some 0x00#8 := by decide
theorem witness_code_in_use : unusedCode (inState 0xB#4 0#3 (start ti)).stateReg = false := by decide

theorem start_inv : (start ti).Inv := by
  refine ⟨by decide, ⟨by decide, by decide⟩, by decide, by decide, by decide, by decide, by decide, by decide,
    by decide, by decide⟩

/-- A state in the SyncLCD tail, with the marker received and the rest of L1 to come. -/
def tailState : State :=
  ctl (withLcd (l1.tail.map Wire.byte) ((inState 0x3#4 4#3 (start ti)).writeByte 5 0xA5#8))

theorem tailState_inv : tailState.Inv := by
  refine ⟨by decide, ⟨by decide, by decide⟩, by decide, by decide, by decide, by decide, by decide, by decide,
    by decide, by decide⟩
theorem tailState_ready : TailReady tailState ∧ tailState.op = Op.synclcdTail := ⟨fun _ => by decide, by decide⟩
theorem tailState_agent : AgentNext tailState := ⟨.controller, rfl⟩
/-- StepKeepsTheInvariant, AgentStepsKeepTheTailReady, SyncLcdReturnsOnlyAValidFrame. -/
theorem witness_tail : tailState.Inv ∧ TailReady tailState ∧ AgentNext tailState ∧
    tailState.stateReg = St.syncingLcd ∧ ∃ t, step tailState = .next t :=
  ⟨tailState_inv, tailState_ready.1, tailState_agent, by decide, _, rfl⟩
/-- The valid frame is what that step returns (V1.3). -/
theorem witness_tail_returns : see (step tailState) (fun t => (t.stateReg, t.readBuf .lcdRx)) = some (0x4#4, l1) := by
  decide
/-- The two ways to Init of SyncLcdReturnsOnlyAValidFrame, from the same tail: POR, and a pending soft reset applied. -/
theorem witness_tail_por :
    (nextStimulus 0 (withInbox [.move (.event 0b00#2)] tailState).env).1 = .move (.event 0b00#2) ∧
    see (step (withInbox [.move (.event 0b00#2)] tailState)) (·.stateReg) = some 0x0#4 := by decide
theorem witness_tail_soft : (nextStimulus 0 tailState.env).1 = .move .controller ∧
    see (step { tailState with srstPending := true }) (·.stateReg) = some 0x0#4 := by decide
/-- AgentStepsComplete: an agent that is next, and a datapath word that is no row. -/
theorem witness_AgentSteps : (AgentNext (ctl (start ti)) ∧ (ctl (start ti)).Inv) ∧
    (start ti).faulted = false ∧ decodeInternal 0x00C#12 = .error (.undefinedUop 12#4) :=
  ⟨⟨⟨.controller, rfl⟩, by
    refine ⟨by decide, ⟨by decide, by decide⟩, by decide, by decide, by decide, by decide, by decide, by decide,
      by decide, by decide⟩⟩, rfl, by decide⟩

/-- PB draws: the marker, another byte, a failure (SyncPbProbeDecides, ProbeExchangesOneByte, RequestPbSendsOneByte,
PacedByteExchangesOneByte). -/
theorem witness_pb_draws :
    (∃ e, pbDraw 0 (withPb [.byte 0x5A#8] (start ti)).env = (.byte 0x5A#8, e)) ∧
    (∃ e, pbDraw 0 (withPb [.byte 0x00#8] (start ti)).env = (.byte 0x00#8, e)) ∧
    (∃ e, pbDraw 0 (withPb [.fail] (start ti)).env = (.fail, e)) := ⟨⟨_, rfl⟩, ⟨_, rfl⟩, ⟨_, rfl⟩⟩
/-- The K-th probe of the scan: `ATTEMPT + 1 = K`. -/
theorem witness_last_probe : ({ start ti with attempt := 0x02#8 }.attempt + 1#8).toNat = ti.maxAttempts ∧
    ({ start ti with attempt := 0x01#8 }.attempt + 1#8).toNat ≠ ti.maxAttempts := by decide
/-- LCD draws of one byte: no clock, a failure, the marker, another byte; and a burst in flight (SyncLcdProbeScans,
ProbeExchangesOneByte). -/
theorem witness_lcd_draws :
    (∃ e, lcdDraw 0 1 (withLcd [.quiet] (start ti)).env = (.quiet, e)) ∧
    (∃ e, lcdDraw 0 1 (withLcd [.fail] (start ti)).env = (.fail, e)) ∧
    (∃ e, lcdDraw 0 1 (withLcd [.byte 0xA5#8] (start ti)).env = (.ok [0xA5#8], e)) ∧
    (∃ e, lcdDraw 0 1 (withLcd [.byte 0x13#8] (start ti)).env = (.ok [0x13#8], e)) ∧
    (start ti).lcdBusy = false ∧ (busy (start ti)).lcdBusy = true :=
  ⟨⟨_, rfl⟩, ⟨_, rfl⟩, ⟨_, rfl⟩, ⟨_, rfl⟩, rfl, rfl⟩
/-- LCD draws of `N-1` bytes (SyncLcdTailValidates, BurstSyncMovesTheTail): with a valid and an invalid frame. -/
theorem witness_tail_draws :
    (∃ e, lcdDraw 0 4 (withLcd [.byte 0x01#8, .quiet] (start ti)).env = (.quiet, e)) ∧
    (∃ e, lcdDraw 0 4 (withLcd [.byte 0x01#8, .fail] (start ti)).env = (.fail, e)) ∧
    (∃ e, lcdDraw 0 4 (withLcd (l1.tail.map Wire.byte) (start ti)).env = (.ok l1.tail, e)) ∧
    validFrame ti .lcd (0xA5#8 :: l1.tail) = true ∧ validFrame ti .lcd (0xA5#8 :: l1x.tail) = false :=
  ⟨⟨_, rfl⟩, ⟨_, rfl⟩, ⟨_, rfl⟩, by decide, by decide⟩
/-- Burst starts (RequestLcdStartsTheBurst, BurstStartTakesTheSnapshot). -/
theorem witness_start_draws :
    (∃ e, startDraw 0 (withStarts [.ok] (start ti)).env = (.ok, e)) ∧
    (∃ e, startDraw 0 (withStarts [.fail] (start ti)).env = (.fail, e)) := ⟨⟨_, rfl⟩, ⟨_, rfl⟩⟩
/-- Frames in the receive buffers (the four statements on LCDReceived and PBReceived). -/
theorem witness_received :
    validFrame ti .lcd (((start ti).writeBuf .lcdRx l2).readBuf .lcdRx) = true ∧
    validFrame ti .lcd (((start ti).writeBuf .lcdRx l1x).readBuf .lcdRx) = false ∧
    validFrame ti .pb (((start ti).writeBuf .pbRx p1f).readBuf .pbRx) = true ∧
    validFrame ti .pb (((start ti).writeBuf .pbRx p2x).readBuf .pbRx) = false := by decide
/-- The debug hook's target: reached, not reached (LcdReceivedForwardsAValidFrame, DebugHookIncrementsOneByte). -/
theorem witness_debugTarget : debugTarget (start ti) l2 = some 2 ∧ debugTarget (start ti) l1 = none := by decide
/-- Indexes of the Paced exchange: the first, the last, the first past the frame. -/
theorem witness_indexes : (0x00#8 : Byte).toNat < ti.n ∧ (0x04#8 : Byte).toNat = ti.n - 1 ∧ ti.n ≤ (0x05#8 : Byte).toNat := by
  decide
/-- The END and SPURIOUS forms (LcdCompletionLandsThenGuards, SpuriousCompletionOnlyGuards, DiscardedCompletionsOnlyTrace). -/
theorem witness_done_draws :
    (∃ e, doneDraw 0 5 (withDones [.done l2] (start ti)).env = (.done l2, e)) ∧
    (∃ e, doneDraw 0 5 (withDones [.spurious] (start ti)).env = (.spurious, e)) ∧
    (busy (start ti)).faulted = false ∧ (busy (start ti)).lcdBusy = true ∧ (start ti).lcdBusy = false ∧
    (broken (start ti)).faulted = true := ⟨⟨_, rfl⟩, ⟨_, rfl⟩, rfl, rfl, rfl, rfl⟩
theorem witness_Ruleset :
    (withInbox [.move (.setRuleset ⟨7⟩)] (start ti)).env.inbox = .move (.setRuleset ⟨7⟩) :: [] := rfl
theorem witness_ChecksumByte : l1.length = ti.n ∧ validFrame ti .lcd l1 = true ∧ l1[ti.n - 1]? ≠ some 0xAC#8 := by decide
/-- PbLandLandsOneSlot: a held slot, EXACT, an empty slot. -/
theorem witness_PbLand : tiAny.race = .anyPending ∧ ((start tiAny).withPending [(4, 0xBA#8)]).slot 4 = some 0xBA#8 ∧
    ti.race = .exact ∧ ((start tiAny).withPending [(4, 0xBA#8)]).slot 3 = none := by decide
/-- RC1 and RC4: with and without a byte that waited (Landed, landEvents). -/
theorem witness_landEvents : landEvents 4 ((start tiAny).withPending [(4, 0xBA#8)]) = [.land .pb 4 [0xBA#8]] ∧
    landEvents 4 (start tiAny) = [] ∧ landEvents 4 (start ti) = [] := by decide

/-- LcdFrameReachesThePb (program P1's burst, with L2 valid; with L1x the frame is invalid). -/
def relayState (f : List Byte) : State :=
  withInbox [.move .controller, .move (.event 0b10#2), .move .controller]
    (withStarts [.ok] (withDones [.done f] (inState 0x6#4 0#3 (start ti))))

theorem witness_LcdFrame (f : List Byte) (h : f.length = 5) :
    (relayState f).stateReg = St.requestLcd ∧ (relayState f).op = Op.none ∧ (relayState f).faulted = false ∧
    (relayState f).srstPending = false ∧ (relayState f).lcdBusy = false ∧ (relayState f).env.starts = .ok :: [] ∧
    (relayState f).env.dones = .done f :: [] ∧ f.length = (relayState f).par.n ∧
    (relayState f).env.inbox = .move .controller :: .move (.event 0b10#2) :: .move .controller :: [] :=
  ⟨rfl, rfl, rfl, rfl, rfl, rfl, rfl, h, rfl⟩
theorem witness_LcdFrame_both : (l2.length = 5 ∧ validFrame ti .lcd l2 = true) ∧ l1x.length = 5 ∧
    validFrame ti .lcd l1x = false := by decide

/-- PacedExchangeSendsTheWholeFrame (TE19). -/
def pacedState : State :=
  withInbox (List.replicate 9 (.move .controller))
    (withPb (p1f.map PbReply.byte) (inState 0x9#4 5#3 ((start ti).writeBuf .pbTx l2)))

theorem witness_PacedExchange :
    pacedState.stateReg = St.requestPb ∧ pacedState.op = Op.pacedXfer ∧ pacedState.idx = 0#8 ∧
    pacedState.faulted = false ∧ pacedState.srstPending = false ∧ p1f.length = pacedState.par.n ∧
    pacedState.env.pbStream = p1f.map PbReply.byte ++ [] ∧
    pacedState.env.inbox = List.replicate (2 * pacedState.par.n - 1) (.move .controller) ++ [] ∧
    pacedState.par.race = .exact := by decide

/-- PacedFailureStopsTheExchange: the first call fails (TE20), and the last one (TE21). -/
def pacedFails (bs : List Byte) : State :=
  withInbox (List.replicate (2 * bs.length + 1) (.move .controller))
    (withPb (bs.map PbReply.byte ++ [.fail]) (inState 0x9#4 5#3 ((start ti).writeBuf .pbTx l2)))

theorem witness_PacedFailure (bs : List Byte) (h : bs.length < 5) :
    (pacedFails bs).stateReg = St.requestPb ∧ (pacedFails bs).op = Op.pacedXfer ∧ (pacedFails bs).idx = 0#8 ∧
    (pacedFails bs).faulted = false ∧ (pacedFails bs).srstPending = false ∧ bs.length < (pacedFails bs).par.n ∧
    (pacedFails bs).env.pbStream = bs.map PbReply.byte ++ .fail :: [] ∧
    (pacedFails bs).env.inbox = List.replicate (2 * bs.length + 1) (.move .controller) ++ [] :=
  ⟨rfl, rfl, rfl, rfl, rfl, h, rfl, (List.append_nil _).symm⟩
theorem witness_PacedFailure_ends : ([] : List Byte).length < 5 ∧ (p1f.take 4).length < 5 := by decide

/-- SyncPbGivesUpAfterKProbes (FS4). -/
def scanState : State :=
  withInbox (List.replicate 5 (.move .controller))
    (withPb [.byte 0x00#8, .byte 0x11#8, .byte 0x22#8] (inState 0x1#4 1#3 (start ti)))

theorem witness_SyncPbGivesUp :
    scanState.stateReg = St.syncingPb ∧ scanState.op = Op.syncpbProbe ∧ scanState.attempt = 0#8 ∧
    scanState.faulted = false ∧ scanState.srstPending = false ∧
    [0x00#8, 0x11#8, 0x22#8].length = scanState.par.maxAttempts ∧
    (∀ b ∈ [0x00#8, 0x11#8, 0x22#8], b ≠ scanState.par.markerPb) ∧
    scanState.env.pbStream = [0x00#8, 0x11#8, 0x22#8].map PbReply.byte ++ [] ∧
    scanState.env.inbox = List.replicate (2 * scanState.par.maxAttempts - 1) (.move .controller) ++ [] := by decide

/-- CompletionAndSoftResetInEitherOrder (EX4, EX5). -/
def crossState (l : List Stimulus) : State :=
  withInbox l (withDones [.done l2] (busy (inState 0x7#4 0#3 (start ti))))

theorem witness_EitherOrder (l : List Stimulus) :
    (crossState l).stateReg = St.awaitingLcd ∧ (crossState l).faulted = false ∧ (crossState l).lcdBusy = true ∧
    (crossState l).srstPending = false ∧ (crossState l).env.dones = .done l2 :: [] ∧
    l2.length = (crossState l).par.n ∧ (crossState l).env.inbox = l := ⟨rfl, rfl, rfl, rfl, rfl, rfl, rfl⟩
theorem witness_UsedCodes : unusedCode 0x0#4 = false ∧ unusedCode 0xB#4 = false ∧ unusedCode 0xA#4 = true ∧
    unusedCode 0xC#4 = true := by decide

/-- The words of 30 R74: SOFT_RESET 0x1101, DEBUG_ON 0x1001, DEBUG_OFF 0x1000, READ_ERRORS 0x0300 then 0x0400. -/
theorem test_pseudo_operations : softResetWords = [0x1101#13] ∧ debugOnWords = [0x1001#13] ∧
    debugOffWords = [0x1000#13] ∧ readErrorsWords = [0x0300#13, 0x0400#13] := by decide
/-- P4's script: the third PB transaction fails. -/
theorem test_scenario_fail :
    ((start ti).scenario [.pbReturns [0x5A#8, 0x11#8], .failPb 3, .steps 1]).env.pbStream =
      [.byte 0x5A#8, .byte 0x11#8, .fail] := by decide

end Sys2Proof.Tests
end

section
/-! PROOFS. The parameters and RULESET (10 R38): no row writes either, and among the agents' moves only the host's
RULESET change writes RULESET. -/

namespace Sys2Proof.Machine

/-- The parameters and inputs of 10 R38, the parameters and RULESET, hold in `t` what they held in `s`. -/
def SameInputs (s t : State) : Prop := t.par = s.par ∧ t.ruleset = s.ruleset

theorem SameInputs.refl (s : State) : SameInputs s s := ⟨rfl, rfl⟩

theorem SameInputs.trans {s t u : State} (hst : SameInputs s t) (htu : SameInputs t u) : SameInputs s u :=
  ⟨htu.1.trans hst.1, htu.2.trans hst.2⟩

/-! The port transactions: they keep the inputs when the rest of the row does. -/

theorem probeOp_andThen_sameInputs (p : Port) (s : State) {k : Byte → State → State}
    (hk : ∀ b t, SameInputs t (k b t)) : SameInputs s ((probeOp p s).andThen k) := by
  refine probeOp_elim p s k (fun _ => ⟨rfl, rfl⟩) (fun _ => ⟨rfl, rfl⟩) ?lcd ?pb
  case lcd => intro _ _ _ b; exact .trans ⟨rfl, rfl⟩ (hk b _)
  case pb => intro _ _ b; exact .trans (by simp [SameInputs]) (hk b _)

theorem burstSyncOp_andThen_sameInputs (s : State) {k : Unit → State → State}
    (hk : ∀ t, SameInputs t (k () t)) : SameInputs s ((burstSyncOp s).andThen k) := by
  refine burstSyncOp_elim s k (fun _ => ⟨rfl, rfl⟩) (fun _ => ⟨rfl, rfl⟩) ?done
  case done =>
    intro _ _ _ _
    exact .trans (by simp [SameInputs]) (hk _)

theorem burstStartOp_andThen_sameInputs (s : State) {k : Unit → State → State}
    (hk : ∀ t, SameInputs t (k () t)) : SameInputs s ((burstStartOp s).andThen k) :=
  burstStartOp_elim s k (fun _ => ⟨rfl, rfl⟩) fun _ => .trans ⟨rfl, rfl⟩ (hk _)

theorem pacedByteOp_andThen_sameInputs (i : Nat) (s : State) {k : Unit → State → State}
    (hk : ∀ t, SameInputs t (k () t)) : SameInputs s ((pacedByteOp i s).andThen k) :=
  pacedByteOp_elim i s k (fun _ => ⟨rfl, rfl⟩) fun _ _ => .trans (by simp [SameInputs]) (hk _)

/-! What the rows do around a transaction. -/

theorem syncPbDecide_sameInputs (b : Byte) (s : State) : SameInputs s (syncPbDecide b s) := by
  unfold syncPbDecide
  split
  · exact ⟨rfl, rfl⟩
  · split <;> exact ⟨rfl, rfl⟩

theorem syncLcdDecide_sameInputs (s : State) : SameInputs s (syncLcdDecide s) := by
  unfold syncLcdDecide
  split <;> exact ⟨rfl, rfl⟩

theorem forwardLcdFrame_sameInputs (f : List Byte) (s : State) : SameInputs s (forwardLcdFrame f s) := by
  unfold forwardLcdFrame
  split <;> simp [SameInputs]

theorem takeCompletion_sameInputs (s : State) : SameInputs s (takeCompletion s) :=
  takeCompletion_elim s (fun _ => by simp [SameInputs]) fun _ _ _ _ => by simp [SameInputs]

/-! The rows with a case of their own. -/

theorem execStepRequestlcd_sameInputs {s t : State} (h : execStepRequestlcd s = .next t) : SameInputs s t := by
  cases h
  split
  · exact .refl s
  · exact .trans (t := { s with stateReg := St.awaitingLcd }) ⟨rfl, rfl⟩ (burstStartOp_andThen_sameInputs _ .refl)

theorem execStepLcdreceived_sameInputs {s t : State} (h : execStepLcdreceived s = .next t) : SameInputs s t := by
  cases h
  split
  · exact forwardLcdFrame_sameInputs _ s
  · exact ⟨rfl, rfl⟩

theorem execStepRequestpbXfer_sameInputs {s t : State} (h : execStepRequestpbXfer s = .next t) : SameInputs s t := by
  unfold execStepRequestpbXfer at h
  split at h
  · cases h
    refine pacedByteOp_andThen_sameInputs _ s fun t => ?_
    split <;> exact ⟨rfl, rfl⟩
  · cases h

theorem execStepPbreceived_sameInputs {s t : State} (h : execStepPbreceived s = .next t) : SameInputs s t := by
  cases h
  simp only [SameInputs]
  split <;> simp

theorem execEvDoneLcd_sameInputs {s t : State} (h : execEvDoneLcd s = .next t) : SameInputs s t := by
  cases h
  split
  · exact ⟨rfl, rfl⟩
  · exact takeCompletion_sameInputs s

theorem execDebugHook_sameInputs {s t : State} (h : execDebugHook s = .next t) : SameInputs s t := by
  cases h
  split
  · exact ⟨debugHookOp_par _ s, debugHookOp_ruleset _ s⟩
  · exact .refl s

theorem execBurstStart_sameInputs {s t : State} (h : execBurstStart s = .next t) : SameInputs s t := by
  cases h
  split
  · exact .refl s
  · exact burstStartOp_andThen_sameInputs s .refl

theorem execPacedByte_sameInputs {i : Byte} {s t : State} (h : execPacedByte i s = .next t) : SameInputs s t := by
  unfold execPacedByte at h
  split at h
  · cases h; exact pacedByteOp_andThen_sameInputs _ s .refl
  · cases h

theorem execPbLand_sameInputs {i : Byte} {s t : State} (h : execPbLand i s = .next t) : SameInputs s t := by
  cases h
  split
  · exact ⟨rfl, rfl⟩
  · exact .refl s

/-- No row of the opcode table writes a parameter or RULESET (10 R38). -/
theorem exec_sameInputs {i : Instr} {s t : State} (h : exec i s = .next t) : SameInputs s t := by
  cases i with
  | stepSyncpbProbe => cases h; exact probeOp_andThen_sameInputs .pb s syncPbDecide_sameInputs
  | stepSynclcdProbe =>
    cases h
    refine probeOp_andThen_sameInputs .lcd s fun b t => ?_
    split <;> exact ⟨rfl, rfl⟩
  | stepSynclcdTail => cases h; exact burstSyncOp_andThen_sameInputs s syncLcdDecide_sameInputs
  | stepRequestlcd => exact execStepRequestlcd_sameInputs h
  | stepLcdreceived => exact execStepLcdreceived_sameInputs h
  | stepRequestpbXfer => exact execStepRequestpbXfer_sameInputs h
  | stepPbreceived => exact execStepPbreceived_sameInputs h
  | evDoneLcd => exact execEvDoneLcd_sameInputs h
  | copy src dst => cases h; exact ⟨State.copyBuf_par s src dst, State.copyBuf_ruleset s src dst⟩
  | probe p => cases h; exact probeOp_andThen_sameInputs p s fun _ _ => ⟨rfl, rfl⟩
  | burstSync => cases h; exact burstSyncOp_andThen_sameInputs s .refl
  | burstStart => exact execBurstStart_sameInputs h
  | pacedByte i => exact execPacedByte_sameInputs h
  | hookApply d => cases h; exact ⟨hookApplyOp_par d s, hookApplyOp_ruleset d s⟩
  | debugHook => exact execDebugHook_sameInputs h
  | pbLand i => exact execPbLand_sameInputs h
  | stepInit | stepSyncpbDelay | stepSyncedpb | stepSyncedlcd | stepIdle | stepRequestpbDelay | evPor | evSrst | evDonePb
  | wrCtrl | wrCmdSrst | rdCtrl | rdCmd | rdStatus | rdErrLcd | rdErrPb | rdFaultCause | rdReserved67 | rdReserved8F
  | checksum | valid | delay => cases h; exact ⟨rfl, rfl⟩
  | stepAwaitinglcd | stepAwaitingpb | stepHalt | stepHaltD | stepHaltEF | stepHoldPair | wrCmdNop | wrRo23 | wrRo45
  | wrReserved67 | wrReserved8F => cases h; exact .refl s

/-- Settles O9: every step is a hold, a soft reset, one row, or the host's RULESET change; none of these writes a
parameter, and only the last writes RULESET. -/
theorem parametersAreNeverWritten : Obligations.ParametersAreNeverWritten := by
  intro s t h
  obtain ⟨x, e, hx⟩ : ∃ x e, nextStimulus s.par.block s.env = (x, e) := ⟨_, _, rfl⟩
  rw [hx]
  have ofRow {i : Instr} (hi : exec i (s.withEnv e) = .next t) :
      t.par = s.par ∧ (t.ruleset = s.ruleset ∨ x = .move (.setRuleset t.ruleset)) :=
    have ⟨hpar, hruleset⟩ := exec_sameInputs hi
    ⟨hpar, .inl hruleset⟩
  apply step_elim h x e hx
  case held => exact fun _ => ⟨rfl, .inl rfl⟩
  case soft => exact fun _ _ _ => ⟨rfl, .inl rfl⟩
  case row => exact fun _ _ _ hi => ofRow hi
  case port => exact fun _ _ hi => ofRow hi
  case host => exact fun _ _ hi => ofRow hi
  case event => exact fun _ _ hi => ofRow hi
  case ruleset => exact fun _ hr => ⟨rfl, .inr hr⟩
  case datapath => exact fun _ _ _ _ _ hi => ofRow hi

end Sys2Proof.Machine
end

section
/-! PROOFS. The host and the buffers (20 R42): a host access reads registers and writes DEBUG_EN or SRST_PENDING, so it
neither writes buffer memory nor depends on it. -/

namespace Sys2Proof.Machine

/-- The row completes from every state, leaves memory, and does the same on any other contents of memory. -/
def IgnoresMemory (i : Instr) : Prop :=
  ∀ s m, ∃ t, exec i s = .next t ∧ t.mem = s.mem ∧ exec i (s.withMem m) = .next (t.withMem m)

/-- A row that makes one update, which leaves memory and commutes with an exchange of memory, ignores memory. -/
theorem IgnoresMemory.of_update {i : Instr} (f : State → State) (hexec : ∀ s, exec i s = .next (f s))
    (hmem : ∀ s, (f s).mem = s.mem) (hcomm : ∀ s m, f (s.withMem m) = (f s).withMem m) : IgnoresMemory i :=
  fun s m => ⟨f s, hexec s, hmem s, by rw [hexec, hcomm]⟩

/-- A read of a register that does not depend on memory ignores memory. -/
theorem IgnoresMemory.of_read {i : Instr} (reg : State → Byte) (hreg : ∀ s m, reg (s.withMem m) = reg s)
    (hexec : ∀ s, exec i s = .next (hostReturns (reg s) s)) : IgnoresMemory i :=
  .of_update (fun s => hostReturns (reg s) s) hexec (fun _ => rfl) fun s m => by rw [hreg]; rfl

/-- A write without effect ignores memory. -/
theorem IgnoresMemory.of_ignored {i : Instr} (hexec : ∀ s, exec i s = .next s) : IgnoresMemory i :=
  .of_update id hexec (fun _ => rfl) fun _ _ => rfl

theorem State.ctrlReg_withMem (s : State) (m : List Host.Cell) : (s.withMem m).ctrlReg = s.ctrlReg := rfl

theorem State.statusReg_withMem (s : State) (m : List Host.Cell) : (s.withMem m).statusReg = s.statusReg := rfl

theorem decodeRead_ignoresMemory (addr : BitVec 4) (data : Byte) : IgnoresMemory (decodeRead addr data) := by
  unfold decodeRead
  split_ifs
  · exact .of_read State.ctrlReg State.ctrlReg_withMem fun _ => rfl
  · exact .of_read (fun _ => 0x00#8) (fun _ _ => rfl) fun _ => rfl
  · exact .of_read State.statusReg State.statusReg_withMem fun _ => rfl
  · exact .of_read State.errLcd State.withMem_errLcd fun _ => rfl
  · exact .of_read State.errPb State.withMem_errPb fun _ => rfl
  · exact .of_read State.faultCause State.withMem_faultCause fun _ => rfl
  · exact .of_read (fun _ => 0x00#8) (fun _ _ => rfl) fun _ => rfl
  · exact .of_read (fun _ => 0x00#8) (fun _ _ => rfl) fun _ => rfl

theorem decodeWrite_ignoresMemory (addr : BitVec 4) (data : Byte) : IgnoresMemory (decodeWrite addr data) := by
  unfold decodeWrite
  split_ifs
  · exact .of_update (fun s => { s with debugEn := data.getLsbD 0 }) (fun _ => rfl) (fun _ => rfl) fun _ _ => rfl
  · exact .of_update requestSoftReset (fun _ => rfl) requestSoftReset_mem fun _ _ => rfl
  -- CMD without the reset bit, and the read-only and reserved addresses
  all_goals exact .of_ignored fun _ => rfl

/-- Settles O35: a host word is a register read or a register write, and either ignores memory. -/
theorem hostAccessReachesNoBuffer : Obligations.HostAccessReachesNoBuffer := by
  intro w
  change IgnoresMemory (decodeHost w)
  unfold decodeHost
  split
  case isTrue => exact decodeWrite_ignoresMemory _ _
  case isFalse => exact decodeRead_ignoresMemory _ _

end Sys2Proof.Machine
end

section
/-! PROOFS. STATUS by bit number (30 R65): a flag set below a word takes bit 0 and moves the word up by one, so the bits of
STATUS are read off its concatenation. -/

namespace Sys2Proof.Machine

theorem getLsbD_append_flagBit {n : Nat} (x : BitVec n) (b : Bool) (i : Nat) :
    (x ++ flagBit b).getLsbD i = if i = 0 then b else x.getLsbD (i - 1) := by
  rw [BitVec.getLsbD_append]
  cases i <;> simp [flagBit]

/-- The layout of STATUS, bit by bit: STATE, PB_SYNCED, FAULTED, HALTED, and zero above them (30 R65). -/
theorem State.getLsbD_statusReg (s : State) (i : Nat) :
    s.statusReg.getLsbD i =
      if i < 4 then s.stateReg.getLsbD i
      else if i = 4 then s.pbSynced
      else if i = 5 then s.faulted
      else if i = 6 then s.halted
      else false := by
  have hflags : s.statusReg.getLsbD i = if i < 4 then s.stateReg.getLsbD i
      else (0#1 ++ flagBit s.halted ++ flagBit s.faulted ++ flagBit s.pbSynced).getLsbD (i - 4) :=
    BitVec.getLsbD_append
  simp only [hflags, getLsbD_append_flagBit, BitVec.getLsbD_zero]
  -- the two sides differ only in how they count: the flags from bit 4 up, or bits by their own number
  grind

theorem State.extractLsb'_statusReg_state (s : State) : s.statusReg.extractLsb' 0 4 = s.stateReg :=
  BitVec.extractLsb'_append_eq_right

/-- HALTED is STATE >= 0xC (10 R31). -/
theorem State.halted_iff (s : State) : s.halted = true ↔ 12 ≤ s.stateReg.toNat := decide_eq_true_iff

/-- After a POR every field of STATUS is zero: STATE is Init and no flag is set. -/
theorem statusReg_powerOn (s : State) : (powerOn s).statusReg = 0x00#8 := by
  simp only [State.statusReg, State.halted, powerOn_stateReg, powerOn_faulted, powerOn_pbSynced]
  decide

/-- Settles O32: the bits from the layout of STATUS, and its value after POR from the fields a POR clears. -/
theorem statusFieldsByBit : Obligations.StatusFieldsByBit := by
  intro s
  refine ⟨s.extractLsb'_statusReg_state, s.getLsbD_statusReg 4, s.getLsbD_statusReg 5, ?halted,
    s.getLsbD_statusReg 7, ?por⟩
  case halted => exact s.getLsbD_statusReg 6 ▸ s.halted_iff
  case por => exact ⟨powerOn s, rfl, statusReg_powerOn s⟩

end Sys2Proof.Machine
end

section
/-! PROOFS. The packet model: VALID compares the checksum byte alone (40 R76), and COPY replicates a frame buffer byte by
byte (40 R78). -/

namespace Sys2Proof.Machine

/-! VALID -/

theorem validFrame_iff (p : Params) (ch : Port) (f : List Byte) :
    validFrame p ch f = true ↔ chkByte p f = chk p ch (body p f) := beq_iff_eq

/-- In a frame of `N` bytes the checksum byte is the byte at `N-1`. -/
theorem getElem?_eq_some_iff_chkByte {p : Params} {f : List Byte} (hf : f.length = p.n) (b : Byte) :
    f[p.n - 1]? = some b ↔ chkByte p f = b := by
  have hlt : p.n - 1 < f.length := by have := p.n_ge; omega
  simp [chkByte, hlt]

/-- The checksum byte is no input of the checksum (30 R57). -/
theorem body_set_chkByte (p : Params) (f : List Byte) (b : Byte) : body p (f.set (p.n - 1) b) = body p f :=
  List.take_set_of_le le_rfl

/-- Settles O42: VALID compares the byte at `N-1` with a checksum that this byte does not enter. -/
theorem checksumByteDecidesValidity : Obligations.ChecksumByteDecidesValidity := by
  intro p ch f hf
  refine ⟨(validFrame_iff p ch f).trans (getElem?_eq_some_iff_chkByte hf _).symm, fun hvalid b hb => ?_⟩
  have hset : chkByte p (f.set (p.n - 1) b) = b :=
    (getElem?_eq_some_iff_chkByte (by simpa using hf) b).mp
      (List.getElem?_set_self (by have := p.n_ge; omega))
  have hne : chk p ch (body p f) ≠ b := fun h =>
    hb ((getElem?_eq_some_iff_chkByte hf b).mpr (((validFrame_iff p ch f).mp hvalid).trans h))
  rw [Bool.eq_false_iff, Ne, validFrame_iff, hset, body_set_chkByte]
  exact hne.symm

/-! COPY -/

/-- An exchange of buffer memory changes no other element. -/
theorem sameBut_withMem (s : State) (m : List Host.Cell) : SameBut [.mem] s (s.withMem m) := by
  intro f hf
  cases f with
  | mem => simp at hf
  | _ => rfl

theorem sameBut_copyBuf (s : State) (src dst : Buf) : SameBut [.mem] s (s.copyBuf src dst) := by
  rw [State.copyBuf, State.writeBuf, writeBytes_eq]
  exact sameBut_withMem s _

/-- Nothing changed when memory alone may have changed and every byte of it reads as before. -/
theorem SameBut.nil_of_byteAt {s t : State} (h : SameBut [.mem] s t) (hbytes : ∀ a, t.byteAt a = s.byteAt a) :
    SameBut [] s t := by
  intro f _
  by_cases hf : f = .mem
  · exact hf ▸ hbytes
  · exact h f (by simpa using hf)

/-- A copy of a buffer onto itself changes no byte (40 R78). -/
theorem byteAt_copyBuf_self (s : State) (b : Buf) (a : Nat) : (s.copyBuf b b).byteAt a = s.byteAt a := by
  rw [State.copyBuf, State.writeBuf, byteAt_writeBytes, readBuf_length]
  split_ifs with ha
  · obtain ⟨hlo, hhi⟩ := ha
    rw [readBuf_getD s b _ (by omega), State.bufByte, Nat.add_sub_cancel' hlo]
  · rfl

/-- Settles O43: the destination reads as the source did, every byte outside it stays, and onto itself each byte within it
is written with its own value. -/
theorem copyReplicatesTheFrame : Obligations.CopyReplicatesTheFrame := by
  intro s src dst
  refine ⟨s.copyBuf src dst, rfl, readBuf_copyBuf_dst s src dst, byteAt_copyBuf_outside s src dst, ?self,
    sameBut_copyBuf s src dst⟩
  case self =>
    rintro rfl
    exact (sameBut_copyBuf s src src).nil_of_byteAt (byteAt_copyBuf_self s src)

end Sys2Proof.Machine
end

section
/-! PROOFS. The transfer engine's rows PROBE, BURST_SYNC and DELAY (41 R85, R86, R90). Frames first: one rule per state
operation and a rule that chains them; then what each answer of a port makes of a transaction, with the faults of
60 R126; then the rows. -/

namespace Sys2Proof.Machine

/-! Frames -/

theorem Field.same_trans {s t u : State} {f : Field} (hst : Field.same s t f) (htu : Field.same t u f) :
    Field.same s u f := by
  cases f with
  | mem => exact fun a => (htu a).trans (hst a)
  | _ => exact Eq.trans htu hst

/-- Two frames in a row: what neither part wrote is as before, so the whole wrote at most `w`. -/
theorem SameBut.trans {v v' w : List Field} {s t u : State} (hst : SameBut v s t) (htu : SameBut v' t u)
    (hw : v ++ v' ⊆ w) : SameBut w s u := fun f hf =>
  have hnot : f ∉ v ++ v' := fun h => hf (hw h)
  Field.same_trans (hst f fun h => hnot (List.mem_append_left v' h)) (htu f fun h => hnot (List.mem_append_right v h))

theorem sameBut_emit (s : State) (ev : Event) : SameBut [.trace] s (s.emit ev) := by
  intro f hf
  cases f with
  | trace => simp at hf
  | mem => exact fun _ => rfl
  | _ => rfl

theorem sameBut_withEnv (s : State) (e : Env) : SameBut [.env] s (s.withEnv e) := by
  intro f hf
  cases f with
  | env => simp at hf
  | mem => exact fun _ => rfl
  | _ => rfl

theorem sameBut_opResult (s : State) (r : Option Byte) : SameBut [.opResult] s { s with opResult := r } := by
  intro f hf
  cases f with
  | opResult => simp at hf
  | mem => exact fun _ => rfl
  | _ => rfl

theorem sameBut_raiseTransportFault (code : Byte) (s : State) :
    SameBut [.faulted, .faultCause, .trace] s (raiseTransportFault code s) := by
  intro f hf
  cases f with
  | faulted | faultCause | trace => simp at hf
  | mem => exact fun _ => rfl
  | _ => rfl

theorem sameBut_writeBytes (s : State) (a : Nat) (vs : List Byte) : SameBut [.mem] s (s.writeBytes a vs) := by
  rw [writeBytes_eq]
  exact sameBut_withMem s _

theorem sameBut_landPb (i : Nat) (b : Byte) (s : State) : SameBut [.mem, .pbPending, .trace] s (landPb i b s) := by
  intro f hf
  cases f with
  | mem | pbPending | trace => simp at hf
  | _ => simp [Field.same]

theorem sameOutside_writeBytes (s : State) (a : Nat) (vs : List Byte) :
    SameOutside s (s.writeBytes a vs) a vs.length := fun x hx => by
  rw [byteAt_writeBytes, if_neg hx]

/-! Transactions, by the answer of the port (41 R80 to R83) -/

/-- The state right after a port's answer: the environment moved on and the transaction in the trace. -/
theorem sameBut_transaction (s : State) (e : Env) (ev : Event) : SameBut [.env, .trace] s ((s.withEnv e).emit ev) :=
  (sameBut_withEnv s e).trans (sameBut_emit _ ev) (by simp)

/-- A failed transaction enters its fault and writes nothing else (60 R126). -/
theorem faultEntered_of_failed (code : Byte) (ev : Event) (s : State) (e : Env) :
    FaultEntered code ev [] s (raiseTransportFault code ((s.withEnv e).emit ev)) :=
  ⟨rfl, rfl, by simp, (sameBut_transaction s e ev).trans (sameBut_raiseTransportFault code _) (by simp)⟩

theorem lcdXfer_of_busy (kind : XferKind) (tx : List Byte) {s : State} (hb : s.lcdBusy = true) :
    lcdXfer kind tx s = .held s := if_pos hb

theorem lcdXfer_of_quiet (kind : XferKind) (tx : List Byte) {s : State} {e : Env} (hb : s.lcdBusy = false)
    (hd : lcdDraw s.par.block tx.length s.env = (.quiet, e)) : lcdXfer kind tx s = .held (s.withEnv e) := by
  simp [lcdXfer, hb, hd]

theorem lcdXfer_of_fail (kind : XferKind) (tx : List Byte) {s : State} {e : Env} (hb : s.lcdBusy = false)
    (hd : lcdDraw s.par.block tx.length s.env = (.fail, e)) : lcdXfer kind tx s =
      .failed (raiseTransportFault (faultCode .lcd kind) ((s.withEnv e).emit (.xfer .lcd kind tx .fail none))) := by
  simp [lcdXfer, hb, hd]

theorem lcdXfer_of_ok (kind : XferKind) (tx : List Byte) {s : State} {e : Env} {rx : List Byte}
    (hb : s.lcdBusy = false) (hd : lcdDraw s.par.block tx.length s.env = (.ok rx, e)) :
    lcdXfer kind tx s = .done rx ((s.withEnv e).emit (.xfer .lcd kind tx .ok (some rx))) := by
  simp [lcdXfer, hb, hd]

theorem pbXfer_of_fail (kind : XferKind) (tx : Byte) {s : State} {e : Env}
    (hd : pbDraw s.par.block s.env = (.fail, e)) : pbXfer kind tx s =
      .failed (raiseTransportFault (faultCode .pb kind) ((s.withEnv e).emit (.xfer .pb kind [tx] .fail none))) := by
  simp [pbXfer, hd]

theorem pbXfer_of_byte (kind : XferKind) (tx : Byte) {s : State} {e : Env} {b : Byte}
    (hd : pbDraw s.par.block s.env = (.byte b, e)) :
    pbXfer kind tx s = .done b ((s.withEnv e).emit (.xfer .pb kind [tx] .ok (some [b]))) := by
  simp [pbXfer, hd]

/-! PROBE (41 R85) -/

theorem exec_probe_lcd_of_held {s t : State} (h : lcdXfer .probe [0x00#8] s = .held t) :
    exec (.probe .lcd) s = .next t := by
  simp [exec, execProbe, probeOp, h]

theorem exec_probe_lcd_of_failed {s t : State} (h : lcdXfer .probe [0x00#8] s = .failed t) :
    exec (.probe .lcd) s = .next t := by
  simp [exec, execProbe, probeOp, h]

/-- The byte received is written to `LCD_RX[0]` and returned. -/
theorem exec_probe_lcd_of_done {s t : State} {b : Byte} (h : lcdXfer .probe [0x00#8] s = .done [b] t) :
    exec (.probe .lcd) s = .next { t.writeBytes (t.base .lcdRx) [b] with opResult := some b } := by
  simp [exec, execProbe, probeOp, h, State.writeBytes]

theorem exec_probe_pb_of_failed {s t : State} (h : pbXfer .probe 0x00#8 s = .failed t) :
    exec (.probe .pb) s = .next t := by
  simp [exec, execProbe, probeOp, h]

/-- The byte received lands for `PB_RX[0]` and is returned. -/
theorem exec_probe_pb_of_done {s t : State} {b : Byte} (h : pbXfer .probe 0x00#8 s = .done b t) :
    exec (.probe .pb) s = .next { landPb 0 b t with opResult := some b } := by
  simp [exec, execProbe, probeOp, h]

/-- PROBE of the LCD with a byte received. -/
theorem exec_probe_lcd_of_ok {s : State} {e : Env} {b : Byte} (hb : s.lcdBusy = false)
    (hd : lcdDraw s.par.block 1 s.env = (.ok [b], e)) :
    ∃ t, exec (.probe .lcd) s = .next t ∧ t.bufByte .lcdRx 0 = b ∧ SameOutside s t (s.base .lcdRx) 1 ∧
      t.opResult = some b ∧ t.trace = s.trace ++ [.xfer .lcd .probe [0x00#8] .ok (some [b])] ∧ t.env = e ∧
      SameBut [.mem, .opResult, .trace, .env] s t := by
  let u := (s.withEnv e).emit (.xfer .lcd .probe [0x00#8] .ok (some [b]))
  have hframe : SameBut [.mem, .trace, .env] s (u.writeBytes (s.base .lcdRx) [b]) :=
    (sameBut_transaction s e _).trans (sameBut_writeBytes u _ _) (by simp)
  exact ⟨_, exec_probe_lcd_of_done (lcdXfer_of_ok .probe [0x00#8] hb hd), bufByte_writeByte_base u .lcdRx b,
    sameOutside_writeBytes u (s.base .lcdRx) [b], rfl, rfl, rfl, hframe.trans (sameBut_opResult _ _) (by simp)⟩

/-- PROBE of the PB with a byte received. -/
theorem exec_probe_pb_of_byte {s : State} {e : Env} {b : Byte} (hd : pbDraw s.par.block s.env = (.byte b, e)) :
    ∃ t, exec (.probe .pb) s = .next t ∧ Landed 0 b s t ∧ t.opResult = some b ∧
      t.trace = s.trace ++ .xfer .pb .probe [0x00#8] .ok (some [b]) :: landEvents 0 s ∧ t.env = e ∧
      SameBut [.mem, .pbPending, .opResult, .trace, .env] s t := by
  let u := (s.withEnv e).emit (.xfer .pb .probe [0x00#8] .ok (some [b]))
  have htrace : (landPb 0 b u).trace = s.trace ++ .xfer .pb .probe [0x00#8] .ok (some [b]) :: landEvents 0 s :=
    (landPb_trace_events 0 b u).trans (List.append_assoc _ _ _)
  have hframe : SameBut [.mem, .pbPending, .trace, .env] s (landPb 0 b u) :=
    (sameBut_transaction s e _).trans (sameBut_landPb 0 b u) (by simp)
  exact ⟨_, exec_probe_pb_of_done (pbXfer_of_byte .probe 0x00#8 hd),
    landed_congr (landPb_landed 0 b u) rfl rfl rfl rfl rfl rfl, rfl, htrace, landPb_env 0 b u,
    hframe.trans (sameBut_opResult _ _) (by simp)⟩

/-- Settles O44: each answer of a port decides the transaction, and the transaction decides the row. -/
theorem probeExchangesOneByte : Obligations.ProbeExchangesOneByte := by
  intro s e
  refine ⟨?busy, ?quiet, ?lcdFail, ?lcdOk, ?pbFail, ?pbByte⟩
  case busy => exact fun hb => exec_probe_lcd_of_held (lcdXfer_of_busy .probe _ hb)
  case quiet => exact fun hb hd => exec_probe_lcd_of_held (lcdXfer_of_quiet .probe [0x00#8] hb hd)
  case lcdFail =>
    exact fun hb hd => ⟨_, exec_probe_lcd_of_failed (lcdXfer_of_fail .probe [0x00#8] hb hd),
      faultEntered_of_failed 0x11#8 _ s e⟩
  case lcdOk => exact fun b hb hd => exec_probe_lcd_of_ok hb hd
  case pbFail =>
    exact fun hd => ⟨_, exec_probe_pb_of_failed (pbXfer_of_fail .probe 0x00#8 hd),
      faultEntered_of_failed 0x21#8 _ s e⟩
  case pbByte => exact fun b hd => exec_probe_pb_of_byte hd

/-! BURST_SYNC (41 R86) -/

theorem memRead_drop_one (s : State) (a n : Nat) : (s.memRead a n).drop 1 = s.memRead (a + 1) (n - 1) := by
  apply List.ext_getElem
  · simp
  · intro i _ _
    simp [State.memRead, Nat.add_assoc, Nat.add_comm 1]

theorem exec_burstSync_of_held {s t : State} (h : lcdXfer .burstSync (syncTailTx s) s = .held t) :
    exec .burstSync s = .next t := by
  simp [exec, execBurstSync, burstSyncOp, h]

theorem exec_burstSync_of_failed {s t : State} (h : lcdXfer .burstSync (syncTailTx s) s = .failed t) :
    exec .burstSync s = .next t := by
  simp [exec, execBurstSync, burstSyncOp, h]

/-- The bytes received are written behind `LCD_RX[0]`. -/
theorem exec_burstSync_of_done {s t : State} {rx : List Byte}
    (h : lcdXfer .burstSync (syncTailTx s) s = .done rx t) :
    exec .burstSync s = .next (t.writeBytes (t.base .lcdRx + 1) rx) := by
  simp [exec, execBurstSync, burstSyncOp, h]

/-- BURST_SYNC with the tail received. -/
theorem exec_burstSync_of_ok {s : State} {e : Env} {rx : List Byte} (hb : s.lcdBusy = false)
    (hd : lcdDraw s.par.block (syncTailTx s).length s.env = (.ok rx, e)) :
    ∃ t, exec .burstSync s = .next t ∧ (t.readBuf .lcdRx).drop 1 = rx ∧
      SameOutside s t (s.base .lcdRx + 1) (syncTailTx s).length ∧
      t.trace = s.trace ++ [.xfer .lcd .burstSync (syncTailTx s) .ok (some rx)] ∧ t.env = e ∧
      SameBut [.mem, .trace, .env] s t := by
  have hlen : rx.length = (syncTailTx s).length := lcdDraw_length hd
  let u := (s.withEnv e).emit (.xfer .lcd .burstSync (syncTailTx s) .ok (some rx))
  refine ⟨_, exec_burstSync_of_done (lcdXfer_of_ok .burstSync _ hb hd), ?tail, ?outside,
    State.writeBytes_trace u _ rx, State.writeBytes_env u _ rx, ?frame⟩
  case tail => exact congrArg (List.drop 1) (readBuf_writeTail u rx (hlen.trans (syncTailTx_length s)))
  case outside => exact hlen ▸ sameOutside_writeBytes u (s.base .lcdRx + 1) rx
  case frame => exact (sameBut_transaction s e _).trans (sameBut_writeBytes u _ rx) (by simp)

/-- Settles O45: the bytes sent are SYNC_TAIL_TX's, `N-1` of them, and each answer of the LCD decides the row. -/
theorem burstSyncMovesTheTail : Obligations.BurstSyncMovesTheTail := by
  intro s e tx
  have htx : syncTailTx s = tx := by
    cases h : s.par.syncTail with
    | txTail => simp only [syncTailTx, tx, h, State.readBuf, memRead_drop_one]
    | zeros => simp only [syncTailTx, tx, h]
  rw [← htx, ← syncTailTx_length s]
  refine ⟨?busy, ?quiet, ?fail, ?ok⟩
  case busy => exact fun hb => exec_burstSync_of_held (lcdXfer_of_busy .burstSync _ hb)
  case quiet => exact fun hb hd => exec_burstSync_of_held (lcdXfer_of_quiet .burstSync _ hb hd)
  case fail =>
    exact fun hb hd => ⟨_, exec_burstSync_of_failed (lcdXfer_of_fail .burstSync _ hb hd),
      faultEntered_of_failed 0x12#8 _ s e⟩
  case ok => exact fun rx hb hd => exec_burstSync_of_ok hb hd

/-! DELAY (41 R90) -/

theorem exec_delay (k : DelayKind) (s : State) :
    ∃ t, exec (.delay k) s = .next t ∧ t.trace = s.trace ++ [.delay (duration s.par k)] ∧ SameBut [.trace] s t :=
  ⟨s.emit (.delay (duration s.par k)), rfl, s.emit_trace _, sameBut_emit s _⟩

/-- Settles O48: the two durations are PACE_DELAY and PB_SYNC_RETRY_DELAY. -/
theorem delayOnlyTraces : Obligations.DelayOnlyTraces := fun s => ⟨exec_delay .pace s, exec_delay .retry s⟩

end Sys2Proof.Machine
end

section
/-! PROOFS. The frame synchronizer's rows (42_frame_sync.md). The answer of a port decides PROBE and BURST_SYNC, and
these decide the rows; then SyncLCD's safety, that it is left for SyncedLCD only with a valid frame that begins with the
marker (42 R96). -/

namespace Sys2Proof.Machine

/-! PROBE and BURST_SYNC inside a row, by the answer of the port (41 R80 to R86) -/

theorem probeOp_lcd_of_busy {s : State} (hb : s.lcdBusy = true) : probeOp .lcd s = .held s := by
  simp [probeOp, lcdXfer_of_busy .probe _ hb]

theorem probeOp_lcd_of_quiet {s : State} {e : Env} (hb : s.lcdBusy = false)
    (hd : lcdDraw s.par.block 1 s.env = (.quiet, e)) : probeOp .lcd s = .held (s.withEnv e) := by
  simp [probeOp, lcdXfer_of_quiet .probe [0x00#8] hb hd]

theorem probeOp_lcd_of_fail {s : State} {e : Env} (hb : s.lcdBusy = false)
    (hd : lcdDraw s.par.block 1 s.env = (.fail, e)) : probeOp .lcd s =
      .failed (raiseTransportFault 0x11#8 ((s.withEnv e).emit (.xfer .lcd .probe [0x00#8] .fail none))) := by
  simp [probeOp, lcdXfer_of_fail .probe [0x00#8] hb hd, faultCode, portCode, XferKind.code]

theorem probeOp_lcd_of_ok {s : State} {e : Env} {b : Byte} (hb : s.lcdBusy = false)
    (hd : lcdDraw s.par.block 1 s.env = (.ok [b], e)) : probeOp .lcd s =
      .done b (((s.withEnv e).emit (.xfer .lcd .probe [0x00#8] .ok (some [b]))).writeByte (s.base .lcdRx) b) := by
  simp [probeOp, lcdXfer_of_ok .probe [0x00#8] hb hd, State.base]

theorem probeOp_pb_of_fail {s : State} {e : Env} (hd : pbDraw s.par.block s.env = (.fail, e)) : probeOp .pb s =
    .failed (raiseTransportFault 0x21#8 ((s.withEnv e).emit (.xfer .pb .probe [0x00#8] .fail none))) := by
  simp [probeOp, pbXfer_of_fail .probe 0x00#8 hd, faultCode, portCode, XferKind.code]

theorem probeOp_pb_of_byte {s : State} {e : Env} {b : Byte} (hd : pbDraw s.par.block s.env = (.byte b, e)) :
    probeOp .pb s = .done b (landPb 0 b ((s.withEnv e).emit (.xfer .pb .probe [0x00#8] .ok (some [b])))) := by
  simp [probeOp, pbXfer_of_byte .probe 0x00#8 hd]

theorem burstSyncOp_of_busy {s : State} (hb : s.lcdBusy = true) : burstSyncOp s = .held s := by
  simp [burstSyncOp, lcdXfer_of_busy .burstSync _ hb]

theorem burstSyncOp_of_quiet {s : State} {e : Env} (hb : s.lcdBusy = false)
    (hd : lcdDraw s.par.block (syncTailTx s).length s.env = (.quiet, e)) :
    burstSyncOp s = .held (s.withEnv e) := by
  simp [burstSyncOp, lcdXfer_of_quiet .burstSync _ hb hd]

theorem burstSyncOp_of_fail {s : State} {e : Env} (hb : s.lcdBusy = false)
    (hd : lcdDraw s.par.block (syncTailTx s).length s.env = (.fail, e)) : burstSyncOp s =
      .failed (raiseTransportFault 0x12#8 ((s.withEnv e).emit (.xfer .lcd .burstSync (syncTailTx s) .fail none))) := by
  simp [burstSyncOp, lcdXfer_of_fail .burstSync _ hb hd, faultCode, portCode, XferKind.code]

theorem burstSyncOp_of_ok {s : State} {e : Env} {rx : List Byte} (hb : s.lcdBusy = false)
    (hd : lcdDraw s.par.block (syncTailTx s).length s.env = (.ok rx, e)) : burstSyncOp s =
      .done () (((s.withEnv e).emit (.xfer .lcd .burstSync (syncTailTx s) .ok (some rx))).writeBytes
        (s.base .lcdRx + 1) rx) := by
  simp [burstSyncOp, lcdXfer_of_ok .burstSync _ hb hd, State.base]

/-! SyncPB (42 R91, R92) -/

/-- The decision writes ATTEMPT, PB_SYNCED, STATE and OP. -/
theorem syncPbDecide_eq (b : Byte) (s : State) : ∃ synced st op,
    syncPbDecide b s = { s with attempt := s.attempt + 1#8, pbSynced := synced, stateReg := st, op := op } ∧
    if b = s.par.markerPb then synced = true ∧ op = Op.none ∧ st = St.syncedPb
    else if (s.attempt + 1#8).toNat = s.par.maxAttempts then synced = false ∧ op = Op.none ∧ st = St.syncedPb
    else synced = s.pbSynced ∧ op = Op.syncpbDelay ∧ st = s.stateReg := by
  unfold syncPbDecide
  split_ifs
  · exact ⟨_, _, _, rfl, rfl, rfl, rfl⟩
  · exact ⟨_, _, _, rfl, rfl, rfl, rfl⟩
  · exact ⟨_, _, _, rfl, rfl, rfl, rfl⟩

theorem sameBut_scanFields (s : State) (a : Byte) (synced : Bool) (st : BitVec 4) (o : BitVec 3) :
    SameBut [.attempt, .pbSynced, .op, .stateReg] s
      { s with attempt := a, pbSynced := synced, stateReg := st, op := o } := by
  intro f hf
  cases f with
  | attempt | pbSynced | op | stateReg => simp at hf
  | mem => exact fun _ => rfl
  | _ => rfl

/-- Settles O21: the answer of the PB decides PROBE, and the byte it returns the scan. -/
theorem syncPbProbeDecides : Obligations.SyncPbProbeDecides := by
  intro s e
  refine ⟨fun b hd => ?byte, fun hd => ?fail⟩
  case byte =>
    let u := (s.withEnv e).emit (.xfer .pb .probe [0x00#8] .ok (some [b]))
    obtain ⟨synced, st, op, ht, hdecision⟩ := syncPbDecide_eq b (landPb 0 b u)
    have hexec : exec .stepSyncpbProbe s = .next (syncPbDecide b (landPb 0 b u)) := by
      simp [exec, execStepSyncpbProbe, probeOp_pb_of_byte hd, u]
    have htrace : (landPb 0 b u).trace = s.trace ++ .xfer .pb .probe [0x00#8] .ok (some [b]) :: landEvents 0 s :=
      (landPb_trace_events 0 b u).trans (List.append_assoc _ _ _)
    have hframe : SameBut [.mem, .pbPending, .trace, .env] s (landPb 0 b u) :=
      (sameBut_transaction s e _).trans (sameBut_landPb 0 b u) (by simp)
    refine ⟨_, hexec.trans (congrArg _ ht), ?attempt, ?decision, htrace, ?landed, landPb_env 0 b u,
      hframe.trans (sameBut_scanFields _ _ synced st op) (by simp)⟩
    case attempt => simp [u]
    case decision => simpa [u] using hdecision
    case landed => exact landed_congr (landPb_landed 0 b u) rfl rfl rfl rfl rfl rfl
  case fail =>
    refine ⟨_, ?_, faultEntered_of_failed 0x21#8 _ s e⟩
    simp [exec, execStepSyncpbProbe, probeOp_pb_of_fail hd]

/-- A move within a state writes OP alone. -/
theorem sameBut_goto_self (s : State) (o : BitVec 3) : SameBut [.op] s (s.goto s.stateReg o) := by
  intro f hf
  cases f with
  | op => simp at hf
  | mem => exact fun _ => rfl
  | _ => rfl

/-- Settles O22: a delay in the trace, then the move to the probe. -/
theorem syncPbDelayReturnsToProbe : Obligations.SyncPbDelayReturnsToProbe := fun s =>
  ⟨(delayOp .retry s).goto s.stateReg Op.syncpbProbe, rfl, rfl, rfl,
    (sameBut_emit s _).trans (sameBut_goto_self (delayOp .retry s) _) (by simp)⟩

/-! SyncLCD (42 R94, R95) -/

/-- What the row does with the byte of an LCD probe: OP is the tail's exactly on the marker (42 R94). -/
theorem exec_stepSynclcdProbe_of_done {s u : State} {b : Byte} (h : probeOp .lcd s = .done b u) :
    exec .stepSynclcdProbe s =
      .next (u.goto u.stateReg (if b = u.par.markerLcd then Op.synclcdTail else u.op)) := by
  simp only [exec, execStepSynclcdProbe, h, Xfer.andThen_done]
  split <;> rfl

/-- Settles O23: the answer of the LCD decides PROBE, and the byte it returns the next OP. -/
theorem syncLcdProbeScans : Obligations.SyncLcdProbeScans := by
  intro s e
  refine ⟨fun hb => ?busy, fun hb hd => ?quiet, fun hb hd => ?fail, fun b hb hd => ?ok⟩
  case busy => simp [exec, execStepSynclcdProbe, probeOp_lcd_of_busy hb]
  case quiet => simp [exec, execStepSynclcdProbe, probeOp_lcd_of_quiet hb hd]
  case fail =>
    refine ⟨_, ?_, faultEntered_of_failed 0x11#8 _ s e⟩
    simp [exec, execStepSynclcdProbe, probeOp_lcd_of_fail hb hd]
  case ok =>
    let u := (s.withEnv e).emit (.xfer .lcd .probe [0x00#8] .ok (some [b]))
    have hframe : SameBut [.mem, .trace, .env] s (u.writeByte (s.base .lcdRx) b) :=
      (sameBut_transaction s e _).trans (sameBut_writeBytes u _ [b]) (by simp)
    exact ⟨_, exec_stepSynclcdProbe_of_done (probeOp_lcd_of_ok hb hd), bufByte_writeByte_base u .lcdRx b,
      sameOutside_writeBytes u (s.base .lcdRx) [b], rfl, rfl, rfl, hframe.trans (sameBut_goto_self _ _) (by simp)⟩

theorem syncLcdDecide_of_valid {s : State} (h : validFrame s.par .lcd (s.readBuf .lcdRx) = true) :
    syncLcdDecide s = s.goto St.syncedLcd Op.none := if_pos h

theorem syncLcdDecide_of_invalid {s : State} (h : ¬ validFrame s.par .lcd (s.readBuf .lcdRx) = true) :
    syncLcdDecide s = (s.emit (.chkFail .lcd .sync)).goto s.stateReg Op.synclcdProbe := if_neg h

theorem sameBut_goto (s : State) (st : BitVec 4) (o : BitVec 3) : SameBut [.stateReg, .op] s (s.goto st o) := by
  intro f hf
  cases f with
  | stateReg | op => simp at hf
  | mem => exact fun _ => rfl
  | _ => rfl

/-- The row with the tail received: the decision on the frame of byte 0 and the tail. -/
theorem exec_stepSynclcdTail_of_ok {s : State} {e : Env} {rx : List Byte} (hb : s.lcdBusy = false)
    (hd : lcdDraw s.par.block (syncTailTx s).length s.env = (.ok rx, e)) :
    exec .stepSynclcdTail s = .next (syncLcdDecide
      (((s.withEnv e).emit (.xfer .lcd .burstSync (syncTailTx s) .ok (some rx))).writeBytes
        (s.base .lcdRx + 1) rx)) := by
  simp [exec, execStepSynclcdTail, burstSyncOp_of_ok hb hd]

/-- Settles O24: the answer of the LCD decides BURST_SYNC, and the frame then in LCD_RX the scan. -/
theorem syncLcdTailValidates : Obligations.SyncLcdTailValidates := by
  intro s e
  rw [← syncTailTx_length s]
  refine ⟨fun hb => ?busy, fun hb hd => ?quiet, fun hb hd => ?fail, fun rx hb hd => ?ok⟩
  case busy => simp [exec, execStepSynclcdTail, burstSyncOp_of_busy hb]
  case quiet => simp [exec, execStepSynclcdTail, burstSyncOp_of_quiet hb hd]
  case fail =>
    refine ⟨_, ?_, faultEntered_of_failed 0x12#8 _ s e⟩
    simp [exec, execStepSynclcdTail, burstSyncOp_of_fail hb hd]
  case ok =>
    have hlen : rx.length = (syncTailTx s).length := lcdDraw_length hd
    have hexec := exec_stepSynclcdTail_of_ok hb hd
    let u := (s.withEnv e).emit (.xfer .lcd .burstSync (syncTailTx s) .ok (some rx))
    let v := u.writeBytes (s.base .lcdRx + 1) rx
    have hread : v.readBuf .lcdRx = s.bufByte .lcdRx 0 :: rx :=
      readBuf_writeTail u rx (hlen.trans (syncTailTx_length s))
    have houtside : SameOutside s v (s.base .lcdRx + 1) (syncTailTx s).length :=
      hlen ▸ sameOutside_writeBytes u (s.base .lcdRx + 1) rx
    have htrace : v.trace = s.trace ++ [.xfer .lcd .burstSync (syncTailTx s) .ok (some rx)] :=
      State.writeBytes_trace u _ rx
    have hframe : SameBut [.mem, .trace, .env] s v :=
      (sameBut_transaction s e _).trans (sameBut_writeBytes u _ rx) (by simp)
    have hvalid : validFrame v.par .lcd (v.readBuf .lcdRx) =
        validFrame s.par .lcd (s.bufByte .lcdRx 0 :: rx) := by rw [hread]; simp [v, u]
    intro f
    split_ifs with hf
    · rw [syncLcdDecide_of_valid (hvalid.trans hf)] at hexec
      exact ⟨_, hexec, hread, houtside, ⟨rfl, rfl, htrace⟩, hframe.trans (sameBut_goto v _ _) (by simp)⟩
    · rw [syncLcdDecide_of_invalid (s := v) (by rwa [hvalid])] at hexec
      refine ⟨_, hexec, hread, houtside, ⟨?state, rfl, ?trace⟩, ?frame⟩
      case state => exact State.writeBytes_stateReg u _ rx
      case trace => simp [htrace]
      case frame =>
        exact (hframe.trans (sameBut_emit v _) (List.Subset.refl _)).trans (sameBut_goto _ _ _) (by simp)

/-! SyncLCD's safety (42 R96): what each agent's step makes of STATE. -/

/-- In SyncingLCD an allowed pair selects the probe or the tail (43 R99). -/
theorem decodeState_syncingLcd {op : BitVec 3} (h : allowedPair St.syncingLcd op = true) :
    decodeState (Sys2Proof.selector op St.syncingLcd) = .stepSynclcdProbe ∨
    (op = Op.synclcdTail ∧ decodeState (Sys2Proof.selector op St.syncingLcd) = .stepSynclcdTail) := by
  revert op
  decide

theorem stepSynclcdProbe_stateReg {s t : State} (h : exec .stepSynclcdProbe s = .next t) : t.stateReg = s.stateReg := by
  cases h
  refine probeOp_elim (P := fun t => t.stateReg = s.stateReg) .lcd s _ (fun _ => rfl) (fun _ => rfl) ?lcd (by simp)
  case lcd => intro _ _ _ b; split <;> rfl

/-- What SyncLCD returns: SyncedLCD, with a valid frame in LCD_RX that begins with the marker (42 R96). -/
def ReturnsValidFrame (t : State) : Prop :=
  t.stateReg = St.syncedLcd ∧ validFrame t.par .lcd (t.readBuf .lcdRx) = true ∧ t.bufByte .lcdRx 0 = t.par.markerLcd

/-- The decision stays in the state it is taken in, or returns the frame it found valid. -/
theorem syncLcdDecide_cases {s : State} (hmarker : s.bufByte .lcdRx 0 = s.par.markerLcd) :
    (syncLcdDecide s).stateReg = s.stateReg ∨ ReturnsValidFrame (syncLcdDecide s) := by
  by_cases hf : validFrame s.par .lcd (s.readBuf .lcdRx) = true
  · rw [syncLcdDecide_of_valid hf]
    exact .inr ⟨rfl, hf, hmarker⟩
  · rw [syncLcdDecide_of_invalid hf]
    exact .inl rfl

/-- A write behind byte 0 of a buffer leaves byte 0. -/
theorem bufByte_zero_writeTail (s : State) (b : Buf) (vs : List Byte) :
    (s.writeBytes (s.base b + 1) vs).bufByte b 0 = s.bufByte b 0 := by
  simp only [State.bufByte, State.base, State.writeBytes_par]
  rw [byteAt_writeBytes, if_neg (by omega)]

/-- The tail's row holds or faults in its state, or decides on a frame whose byte 0 is still the marker. -/
theorem stepSynclcdTail_stateReg {s t : State} (hmarker : s.bufByte .lcdRx 0 = s.par.markerLcd)
    (h : exec .stepSynclcdTail s = .next t) : t.stateReg = s.stateReg ∨ ReturnsValidFrame t := by
  cases h
  refine burstSyncOp_elim (P := fun t => t.stateReg = s.stateReg ∨ ReturnsValidFrame t) s _ (fun _ => .inl rfl)
    (fun _ => .inl rfl) ?done
  case done =>
    intro _ e rx _
    let u := (s.withEnv e).emit (.xfer .lcd .burstSync (syncTailTx s) .ok (some rx))
    let v := u.writeBytes (s.base .lcdRx + 1) rx
    have hmarker' : v.bufByte .lcdRx 0 = v.par.markerLcd := by
      rw [show v.par = s.par from State.writeBytes_par u _ rx]
      exact (bufByte_zero_writeTail u .lcdRx rx).trans hmarker
    have hstate : v.stateReg = s.stateReg := State.writeBytes_stateReg u _ rx
    exact hstate ▸ syncLcdDecide_cases hmarker'

/-- A host word answers a read, writes DEBUG_EN or SRST_PENDING, or is ignored (44 R117 to R121). -/
theorem exec_decodeHost_cases (w : BitVec 13) (s : State) :
    (∃ b, exec (decodeHost w) s = .next (hostReturns b s)) ∨
    (∃ d, exec (decodeHost w) s = .next { s with debugEn := d }) ∨
    exec (decodeHost w) s = .next (requestSoftReset s) ∨ exec (decodeHost w) s = .next s := by
  unfold decodeHost
  split
  case isTrue =>
    unfold decodeWrite
    split_ifs
    · exact .inr (.inl ⟨_, rfl⟩)
    · exact .inr (.inr (.inl rfl))
    -- CMD without the reset bit, and the read-only and reserved addresses
    all_goals exact .inr (.inr (.inr rfl))
  case isFalse =>
    unfold decodeRead
    split_ifs <;> exact .inl ⟨_, rfl⟩

theorem decodeHost_stateReg {w : BitVec 13} {s t : State} (h : exec (decodeHost w) s = .next t) :
    t.stateReg = s.stateReg := by
  rcases exec_decodeHost_cases w s with ⟨b, ht⟩ | ⟨d, ht⟩ | ht | ht
  all_goals
    rw [ht] at h
    cases h
    rfl

theorem pbLand_stateReg {k : Byte} {s t : State} (h : exec (.pbLand k) s = .next t) : t.stateReg = s.stateReg := by
  cases h
  split
  · simp
  · rfl

/-- The guard moves STATE from AwaitingLCD only (43 R106). -/
theorem completionGuard_stateReg_of_ne {s : State} (h : s.stateReg ≠ St.awaitingLcd) :
    (completionGuard s).stateReg = s.stateReg := by
  rw [completionGuard, if_neg h]
  rfl

theorem takeCompletion_stateReg_of_ne {s : State} (h : s.stateReg ≠ St.awaitingLcd) :
    (takeCompletion s).stateReg = s.stateReg := by
  refine takeCompletion_elim (P := fun t => t.stateReg = s.stateReg) s (fun e => ?spurious) (fun _ e rx _ => ?ended)
  case spurious => exact completionGuard_stateReg_of_ne (s := s.withEnv e) h
  case ended => rw [completionGuard_stateReg_of_ne] <;> simp [h]

/-- Outside AwaitingLCD the one event that writes STATE is POR (30 R69). -/
theorem decodeEvent_stateReg {c : BitVec 2} {s t : State} (hs : s.stateReg ≠ St.awaitingLcd)
    (h : exec (decodeEvent c) s = .next t) : t.stateReg = s.stateReg ∨ (c = 0b00#2 ∧ t.stateReg = St.init) := by
  unfold decodeEvent at h
  split_ifs at h with hpor
  case pos => cases h; exact .inr ⟨hpor, rfl⟩
  · cases h; exact .inl rfl
  · cases h
    split
    · exact .inl rfl
    · exact .inl (takeCompletion_stateReg_of_ne hs)
  · cases h; exact .inl rfl

/-- Settles O18: of the steps from SyncingLCD, POR and the applied soft reset lead to Init, the tail's row may lead to
SyncedLCD, and no other writes STATE. -/
theorem syncLcdReturnsOnlyAValidFrame : Obligations.SyncLcdReturnsOnlyAValidFrame := by
  intro s t ⟨m, hm⟩ hinv hready hs h
  obtain ⟨x, e, hx⟩ : ∃ x e, nextStimulus s.par.block s.env = (x, e) := ⟨_, _, rfl⟩
  rw [hx] at hm ⊢
  apply step_elim h x e hx
  case held => exact fun _ => .inl hs
  case soft => exact fun hc _ hsrst => .inr (.inl ⟨rfl, .inr ⟨hc, hsrst⟩⟩)
  case row =>
    intro _ _ _ hi
    have hsel : s.selector = Sys2Proof.selector s.op St.syncingLcd := hs ▸ rfl
    rw [hsel] at hi
    rcases decodeState_syncingLcd (hs ▸ hinv.pair) with hprobe | ⟨hop, htail⟩
    · rw [hprobe] at hi
      exact .inl ((stepSynclcdProbe_stateReg hi).trans hs)
    · rw [htail] at hi
      obtain ⟨-, hmarker⟩ := hready hop
      rcases stepSynclcdTail_stateReg (s := s.withEnv e) hmarker hi with hstays | hreturns
      · exact .inl (hstays.trans hs)
      · exact .inr (.inr hreturns)
  case port => exact fun _ _ hi => .inl ((pbLand_stateReg hi).trans hs)
  case host => exact fun _ _ hi => .inl ((decodeHost_stateReg hi).trans hs)
  case event =>
    intro c hc hi
    have hne : (s.withEnv e).stateReg ≠ St.awaitingLcd := by rw [State.withEnv_stateReg, hs]; decide
    rcases decodeEvent_stateReg hne hi with hstays | ⟨rfl, hinit⟩
    · exact .inl (hstays.trans hs)
    · exact .inr (.inl ⟨hinit, .inl hc⟩)
  case ruleset => exact fun _ _ => .inl hs
  case datapath =>
    -- the step is an agent's, not the test bench's
    intro w _ hw
    rw [hw] at hm
    cases hm

end Sys2Proof.Machine
end

section
/-! PROOFS. The relay controller's rows (43_bridge_fsm.md). The rows of the states without a step first; then one frame
per register the rows write, the burst and the Paced byte by the answer of the port, and what a copy followed by the
Overwrite Hook leaves, which both forwarding states share. -/

namespace Sys2Proof.Machine

/-! Holding (43 R99, R105, R110, R112) -/

/-- The rows of the states in which the controller has no step. -/
def isHoldingRow : Instr → Bool
  | .stepAwaitinglcd | .stepAwaitingpb | .stepHalt _ | .stepHaltD _ | .stepHaltEF _ _ | .stepHoldPair _ _ => true
  | _ => false

theorem exec_of_isHoldingRow {i : Instr} (h : isHoldingRow i = true) (s : State) : exec i s = .next s := by
  cases i with
  | stepAwaitinglcd | stepAwaitingpb | stepHalt | stepHaltD | stepHaltEF | stepHoldPair => rfl
  | _ => cases h

/-- AwaitingLCD, AwaitingPB, a halt code and a pair that is not allowed select a holding row, whatever OP is:
AwaitingLCD and AwaitingPB with an OP other than NONE are pairs that are not allowed. -/
theorem isHoldingRow_decodeState {st : BitVec 4} {op : BitVec 3}
    (h : st = St.awaitingLcd ∨ st = St.awaitingPb ∨ isHalt st = true ∨ allowedPair st op = false) :
    isHoldingRow (decodeState (Sys2Proof.selector op st)) = true := by
  revert st op
  decide

theorem step_of_controller {s : State} {rest : List Stimulus} (h : s.env.inbox = .move .controller :: rest) :
    step s = controllerStep (s.withEnv { s.env with inbox := rest }) := by
  simp [step, machineStep, nextStimulus, h, runStimulus, moveStep]

/-- A micro-step that selects a holding row changes nothing, a fault or not (43 R98). -/
theorem controllerStep_of_isHoldingRow {s : State} (hsrst : s.srstPending = false)
    (hrow : isHoldingRow (decodeState s.selector) = true) : controllerStep s = .next s := by
  unfold controllerStep
  split
  case isTrue => rfl
  case isFalse => simp [hsrst, exec_of_isHoldingRow hrow s]

/-- Settles O8: each holding row answers the state it is given, and the selectors of the holding states are theirs. -/
theorem holdingRowsKeepEverything : Obligations.HoldingRowsKeepEverything := by
  refine ⟨fun s => ⟨rfl, rfl, fun _ => rfl, fun _ => rfl, fun _ _ => rfl, fun _ _ => rfl⟩, ?step⟩
  case step =>
    intro s rest hinbox hsrst hholds
    rw [step_of_controller hinbox]
    exact controllerStep_of_isHoldingRow hsrst (isHoldingRow_decodeState hholds)

/-! Frames of the registers -/

theorem SameBut.refl (w : List Field) (s : State) : SameBut w s s := by
  intro f _
  cases f with
  | mem => exact fun _ => rfl
  | _ => rfl

theorem SameBut.mono {v w : List Field} {s t : State} (h : SameBut v s t) (hw : v ⊆ w) : SameBut w s t :=
  fun f hf => h f fun hv => hf (hw hv)

theorem sameBut_attempt (s : State) (a : Byte) : SameBut [.attempt] s { s with attempt := a } := by
  intro f hf
  cases f with
  | attempt => simp at hf
  | mem => exact fun _ => rfl
  | _ => rfl

theorem sameBut_stateReg (s : State) (st : BitVec 4) : SameBut [.stateReg] s { s with stateReg := st } := by
  intro f hf
  cases f with
  | stateReg => simp at hf
  | mem => exact fun _ => rfl
  | _ => rfl

theorem sameBut_idx (s : State) (i : Byte) : SameBut [.idx] s { s with idx := i } := by
  intro f hf
  cases f with
  | idx => simp at hf
  | mem => exact fun _ => rfl
  | _ => rfl

theorem sameBut_errLcd (s : State) (c : Byte) : SameBut [.errLcd] s { s with errLcd := c } := by
  intro f hf
  cases f with
  | errLcd => simp at hf
  | mem => exact fun _ => rfl
  | _ => rfl

theorem sameBut_errPb (s : State) (c : Byte) : SameBut [.errPb] s { s with errPb := c } := by
  intro f hf
  cases f with
  | errPb => simp at hf
  | mem => exact fun _ => rfl
  | _ => rfl

/-- What PBReceived writes whatever the frame: the heartbeat and STATE (43 R111). -/
theorem sameBut_heartbeat (s : State) (h : Bool) (st : BitVec 4) :
    SameBut [.indHeart, .stateReg] s { s with indHeart := h, stateReg := st } := by
  intro f hf
  cases f with
  | indHeart | stateReg => simp at hf
  | mem => exact fun _ => rfl
  | _ => rfl

/-- What a burst start that succeeds writes besides the trace: the snapshot and LCD_BUSY (41 R87). -/
theorem sameBut_inflight (s : State) (tx : List Byte) (b : Bool) :
    SameBut [.lcdInflightTx, .lcdBusy] s { s with lcdInflightTx := tx, lcdBusy := b } := by
  intro f hf
  cases f with
  | lcdInflightTx | lcdBusy => simp at hf
  | mem => exact fun _ => rfl
  | _ => rfl

/-! The states that pass on (43 R100 to R103) -/

/-- Settles O19: ATTEMPT is cleared, then STATE and OP move. -/
theorem initBeginsSynchronization : Obligations.InitBeginsSynchronization := fun s =>
  ⟨{ s with attempt := 0#8 }.goto St.syncingPb Op.syncpbProbe, rfl, rfl, rfl, rfl,
    (sameBut_attempt s _).trans (sameBut_goto _ _ _) (by simp)⟩

/-- Settles O20: SyncedPB moves STATE and OP, SyncedLCD and Idle move STATE alone. -/
theorem passingStatesGoOn : Obligations.PassingStatesGoOn := by
  intro s
  refine ⟨?syncedPb, ?syncedLcd, ?idle⟩
  case syncedPb =>
    exact ⟨s.goto St.syncingLcd Op.synclcdProbe, rfl, rfl, rfl, (sameBut_goto s _ _).mono (by simp)⟩
  case syncedLcd => exact ⟨{ s with stateReg := St.requestLcd }, rfl, rfl, sameBut_stateReg s _⟩
  case idle => exact ⟨{ s with stateReg := St.requestLcd }, rfl, rfl, sameBut_stateReg s _⟩

/-! RequestLCD (43 R104) -/

theorem burstStartOp_of_ok {s : State} {e : Env} (hd : startDraw s.par.block s.env = (.ok, e)) :
    burstStartOp s = .done () { (s.withEnv e).emit (.xfer .lcd .burstStart (s.readBuf .lcdTx) .ok (some [])) with
      lcdInflightTx := s.readBuf .lcdTx, lcdBusy := true } := by
  simp [burstStartOp, hd]

theorem burstStartOp_of_fail {s : State} {e : Env} (hd : startDraw s.par.block s.env = (.fail, e)) :
    burstStartOp s = .failed (raiseTransportFault 0x13#8
      ((s.withEnv e).emit (.xfer .lcd .burstStart (s.readBuf .lcdTx) .fail (some [])))) := by
  simp [burstStartOp, hd, faultCode, portCode, XferKind.code]

/-- A fault entered after a step that leaves the trace (60 R126). -/
theorem FaultEntered.after {code : Byte} {ev : Event} {before : List Field} {s u t : State}
    (hbefore : SameBut before s u) (htrace : u.trace = s.trace) (h : FaultEntered code ev [] u t) :
    FaultEntered code ev before s t :=
  have ⟨hfaulted, hcause, hevents, hframe⟩ := h
  ⟨hfaulted, hcause, htrace ▸ hevents, hbefore.trans hframe (List.Subset.refl _)⟩

/-- With no burst in flight the row is what the start comes to, STATE written before it. -/
theorem exec_stepRequestlcd_of_start {s : State} {x : Xfer Unit} (hb : s.lcdBusy = false)
    (h : burstStartOp { s with stateReg := St.awaitingLcd } = x) :
    exec .stepRequestlcd s = .next (x.andThen fun _ t => t) := by
  subst h
  exact congrArg Host.Outcome.next (if_neg (Bool.eq_false_iff.mp hb))

/-- Settles O25: STATE is written first, then the answer of the LCD decides the start. -/
theorem requestLcdStartsTheBurst : Obligations.RequestLcdStartsTheBurst := by
  intro s e
  let u : State := { s with stateReg := St.awaitingLcd }
  have hstate : SameBut [.stateReg] s u := sameBut_stateReg s _
  refine ⟨fun hb => ?busy, fun hb hd => ?ok, fun hb hd => ?fail⟩
  case busy => simp [exec, execStepRequestlcd, hb]
  case ok =>
    let v := (u.withEnv e).emit (.xfer .lcd .burstStart (u.readBuf .lcdTx) .ok (some []))
    have hsent : SameBut [.stateReg, .env, .trace] s v :=
      hstate.trans (sameBut_transaction u e _) (List.Subset.refl _)
    exact ⟨_, exec_stepRequestlcd_of_start hb (burstStartOp_of_ok hd), rfl, rfl, rfl, rfl, rfl,
      hsent.trans (sameBut_inflight v (u.readBuf .lcdTx) true) (by simp)⟩
  case fail =>
    exact ⟨_, exec_stepRequestlcd_of_start hb (burstStartOp_of_fail hd), rfl,
      (faultEntered_of_failed 0x13#8 _ u e).after hstate rfl⟩

/-! RequestPB (43 R108, R109) -/

theorem pacedByteOp_of_byte {s : State} {e : Env} {b : Byte} (i : Nat)
    (hd : pbDraw s.par.block s.env = (.byte b, e)) : pacedByteOp i s =
      .done () (landPb i b ((s.withEnv e).emit (.xfer .pb .pacedByte [s.bufByte .pbTx i] .ok (some [b])))) := by
  simp [pacedByteOp, pbXfer_of_byte .pacedByte _ hd]

theorem pacedByteOp_of_fail {s : State} {e : Env} (i : Nat) (hd : pbDraw s.par.block s.env = (.fail, e)) :
    pacedByteOp i s = .failed (raiseTransportFault 0x24#8
      ((s.withEnv e).emit (.xfer .pb .pacedByte [s.bufByte .pbTx i] .fail none))) := by
  simp [pacedByteOp, pbXfer_of_fail .pacedByte _ hd, faultCode, portCode, XferKind.code]

/-- The row with the byte exchanged: STATE and OP say whether it was the last one. -/
theorem exec_stepRequestpbXfer_of_done {s t : State} (hi : s.idx.toNat < s.par.n)
    (h : pacedByteOp s.idx.toNat s = .done () t) : ∃ st op,
    exec .stepRequestpbXfer s = .next (t.goto st op) ∧
    if s.idx.toNat = s.par.n - 1 then op = Op.none ∧ st = St.pbReceived
    else op = Op.pacedDelay ∧ st = t.stateReg := by
  simp only [exec, execStepRequestpbXfer, if_pos hi, h, Xfer.andThen_done]
  split_ifs
  · exact ⟨_, _, rfl, rfl, rfl⟩
  · exact ⟨_, _, rfl, rfl, rfl⟩

/-- Settles O27: the answer of the PB decides the transaction, and the index whether its byte was the last. -/
theorem requestPbSendsOneByte : Obligations.RequestPbSendsOneByte := by
  intro s e hi
  refine ⟨fun b hd => ?byte, fun hd => ?fail⟩
  case byte =>
    let i := s.idx.toNat
    let u := (s.withEnv e).emit (.xfer .pb .pacedByte [s.bufByte .pbTx i] .ok (some [b]))
    obtain ⟨st, op, hexec, hnext⟩ := exec_stepRequestpbXfer_of_done hi (pacedByteOp_of_byte i hd)
    have htrace : (landPb i b u).trace =
        s.trace ++ .xfer .pb .pacedByte [s.bufByte .pbTx i] .ok (some [b]) :: landEvents i s :=
      (landPb_trace_events i b u).trans (List.append_assoc _ _ _)
    have hframe : SameBut [.mem, .pbPending, .trace, .env] s (landPb i b u) :=
      (sameBut_transaction s e _).trans (sameBut_landPb i b u) (by simp)
    refine ⟨_, hexec, ?next, htrace, ?landed, landPb_env i b u, hframe.trans (sameBut_goto _ _ _) (by simp)⟩
    case next => simpa using hnext
    case landed => exact landed_congr (landPb_landed i b u) rfl rfl rfl rfl rfl rfl
  case fail =>
    refine ⟨_, ?_, faultEntered_of_failed 0x24#8 _ s e⟩
    simp [exec, execStepRequestpbXfer, hi, pacedByteOp_of_fail _ hd]

/-- Settles O28: a delay in the trace, then the next index and the move to its transaction. -/
theorem requestPbDelayAdvancesTheIndex : Obligations.RequestPbDelayAdvancesTheIndex := by
  intro s
  let u : State := { delayOp .pace s with idx := s.idx.succ }
  have hframe : SameBut [.trace, .idx] s u := (sameBut_emit s _).trans (sameBut_idx _ _) (List.Subset.refl _)
  exact ⟨u.goto u.stateReg Op.pacedXfer, rfl, rfl, rfl, rfl, hframe.trans (sameBut_goto_self u _) (by simp)⟩

/-! HOOK_APPLY (43 R113) -/

theorem sameBut_hookApplyOp (d : Dir) (s : State) : SameBut [.mem, .trace] s (hookApplyOp d s) :=
  (sameBut_writeBytes s _ _).trans (sameBut_emit _ _) (List.Subset.refl _)

/-- HOOK_APPLY on the buffer of its direction. -/
theorem exec_hookApply (d : Dir) (s : State) :
    let v := s.readBuf (Dir.buffer d)
    let w := hook s.par d s.ruleset v
    ∃ t, exec (.hookApply d) s = .next t ∧ t.readBuf (Dir.buffer d) = w ∧
      SameOutside s t (s.base (Dir.buffer d)) s.par.n ∧ t.trace = s.trace ++ [.hook d v w] ∧
      SameBut [.mem, .trace] s t :=
  ⟨hookApplyOp d s, rfl, hookApply_read d s, hookApply_outside d s, hookApply_trace d s, sameBut_hookApplyOp d s⟩

/-- Settles O50: LCD-to-PB works on PB_TX, PB-to-LCD on LCD_TX. -/
theorem hookApplyRewritesItsBuffer : Obligations.HookApplyRewritesItsBuffer := by
  intro s d
  cases d with
  | lcd2pb => exact exec_hookApply .lcd2pb s
  | pb2lcd => exact exec_hookApply .pb2lcd s

/-! A whole frame forwarded: the copy, then the Overwrite Hook on it (43 R107, R111) -/

theorem readBuf_hookApply_copyBuf (d : Dir) (src : Buf) (s : State) :
    (hookApplyOp d (s.copyBuf src (Dir.buffer d))).readBuf (Dir.buffer d) = hook s.par d s.ruleset (s.readBuf src) := by
  rw [hookApply_read, readBuf_copyBuf_dst, State.copyBuf_par, State.copyBuf_ruleset]

theorem sameOutside_hookApply_copyBuf (d : Dir) (src : Buf) (s : State) :
    SameOutside s (hookApplyOp d (s.copyBuf src (Dir.buffer d))) (s.base (Dir.buffer d)) s.par.n := by
  intro a ha
  rw [hookApply_outside, byteAt_copyBuf_outside s _ _ a ha]
  simpa [State.base] using ha

theorem trace_hookApply_copyBuf (d : Dir) (src : Buf) (s : State) :
    (hookApplyOp d (s.copyBuf src (Dir.buffer d))).trace =
      s.trace ++ [.hook d (s.readBuf src) (hook s.par d s.ruleset (s.readBuf src))] := by
  rw [hookApply_trace, readBuf_copyBuf_dst, State.copyBuf_trace, State.copyBuf_par, State.copyBuf_ruleset]

theorem sameBut_hookApply_copyBuf (d : Dir) (src : Buf) (s : State) :
    SameBut [.mem, .trace] s (hookApplyOp d (s.copyBuf src (Dir.buffer d))) :=
  (sameBut_copyBuf s _ _).trans (sameBut_hookApplyOp d _) (by simp)

/-! LCDReceived (43 R107) -/

theorem debugTarget_congr {s t : State} (hp : t.par = s.par) (f : List Byte) : debugTarget t f = debugTarget s f := by
  simp [debugTarget, State.base, hp]

/-- The debug hook works on LCD_TX, so PB_TX keeps its frame (43 R114). -/
theorem readBuf_pbTx_debugHookOp (f : List Byte) (s : State) : (debugHookOp f s).readBuf .pbTx = s.readBuf .pbTx := by
  refine readBuf_eq_of_bytes (debugHookOp_par f s) .pbTx fun i _ => ?_
  rw [debugHook_byteAt, if_neg]
  intro htarget
  have hrange := debugTarget_range htarget
  simp only [State.base, Buf.base] at hrange
  omega

theorem sameBut_debugHookOp (f : List Byte) (s : State) : SameBut [.mem] s (debugHookOp f s) := by
  unfold debugHookOp
  split
  · exact sameBut_withMem s _
  · exact .refl _ s

/-- The valid case leaves in PB_TX what the hook makes of the frame, the debug hook run after it or not. -/
theorem readBuf_forwardLcdFrame (f : List Byte) (s : State) :
    (forwardLcdFrame f s).readBuf .pbTx = hook s.par .lcd2pb s.ruleset (s.readBuf .lcdRx) := by
  unfold forwardLcdFrame
  split
  · exact (readBuf_pbTx_debugHookOp f _).trans (readBuf_hookApply_copyBuf .lcd2pb .lcdRx s)
  · exact readBuf_hookApply_copyBuf .lcd2pb .lcdRx s

/-- Outside PB_TX the debug hook alone writes, when it is enabled. -/
theorem byteAt_forwardLcdFrame (f : List Byte) (s : State) (a : Nat)
    (ha : ¬ (s.base .pbTx ≤ a ∧ a < s.base .pbTx + s.par.n)) :
    (forwardLcdFrame f s).byteAt a =
      if s.debugEn = true ∧ debugTarget s f = some a then s.byteAt a + 1#8 else s.byteAt a := by
  have hforward : (hookApplyOp .lcd2pb (s.copyBuf .lcdRx .pbTx)).byteAt a = s.byteAt a :=
    sameOutside_hookApply_copyBuf .lcd2pb .lcdRx s a ha
  unfold forwardLcdFrame
  cases hd : s.debugEn with
  | true => simp [debugHook_byteAt, hforward, debugTarget_congr (s := s)]
  | false => simpa using hforward

theorem trace_forwardLcdFrame (f : List Byte) (s : State) :
    (forwardLcdFrame f s).trace =
      s.trace ++ [.hook .lcd2pb (s.readBuf .lcdRx) (hook s.par .lcd2pb s.ruleset (s.readBuf .lcdRx))] := by
  unfold forwardLcdFrame
  split
  · exact (debugHookOp_trace f _).trans (trace_hookApply_copyBuf .lcd2pb .lcdRx s)
  · exact trace_hookApply_copyBuf .lcd2pb .lcdRx s

theorem sameBut_forwardLcdFrame (f : List Byte) (s : State) : SameBut [.mem, .trace] s (forwardLcdFrame f s) := by
  have hforward : SameBut [.mem, .trace] s (hookApplyOp .lcd2pb (s.copyBuf .lcdRx .pbTx)) :=
    sameBut_hookApply_copyBuf .lcd2pb .lcdRx s
  unfold forwardLcdFrame
  split
  · exact hforward.trans (sameBut_debugHookOp f _) (by simp)
  · exact hforward

theorem exec_stepLcdreceived_of_valid {s : State} (h : validFrame s.par .lcd (s.readBuf .lcdRx) = true) :
    exec .stepLcdreceived s =
      .next ({ forwardLcdFrame (s.readBuf .lcdRx) s with idx := 0#8 }.goto St.requestPb Op.pacedXfer) := by
  simp [exec, execStepLcdreceived, h]

theorem exec_stepLcdreceived_of_invalid {s : State} (h : validFrame s.par .lcd (s.readBuf .lcdRx) = false) :
    exec .stepLcdreceived s = .next ({ { s with errLcd := s.errLcd.succ }.emit (.chkFail .lcd .steady) with
      idx := 0#8 }.goto St.requestPb Op.pacedXfer) := by
  simp [exec, execStepLcdreceived, h]

/-- The move to RequestPB's first byte, after either case. -/
theorem SameBut.toRequestPb {w : List Field} {s t : State} (h : SameBut w s t) :
    SameBut (w ++ [.idx, .stateReg, .op]) s ({ t with idx := 0#8 }.goto St.requestPb Op.pacedXfer) :=
  h.trans ((sameBut_idx t _).trans (sameBut_goto _ _ _) (List.Subset.refl _)) (List.Subset.refl _)

/-- Settles O26: VALID decides between forwarding and counting, and either leads to RequestPB's first byte. -/
theorem lcdReceivedForwardsOrCounts : Obligations.LcdReceivedForwardsOrCounts := by
  intro s f g
  refine ⟨fun hvalid => ?valid, fun hinvalid => ?invalid⟩
  case valid =>
    exact ⟨_, exec_stepLcdreceived_of_valid hvalid, readBuf_forwardLcdFrame f s, byteAt_forwardLcdFrame f s, rfl, rfl,
      rfl, trace_forwardLcdFrame f s, (sameBut_forwardLcdFrame f s).toRequestPb.mono (by simp)⟩
  case invalid =>
    have hcounted : SameBut [.errLcd, .trace] s ({ s with errLcd := s.errLcd.succ }.emit (.chkFail .lcd .steady)) :=
      (sameBut_errLcd s _).trans (sameBut_emit _ _) (List.Subset.refl _)
    exact ⟨_, exec_stepLcdreceived_of_invalid hinvalid, BitVec.toNat_add _ _, rfl, rfl, rfl, rfl,
      hcounted.toRequestPb.mono (by simp)⟩

/-! PBReceived (43 R111) -/

theorem exec_stepPbreceived_of_valid {s : State} (h : validFrame s.par .pb (s.readBuf .pbRx) = true) :
    exec .stepPbreceived s = .next { hookApplyOp .pb2lcd (s.copyBuf .pbRx .lcdTx) with
      indHeart := !s.indHeart, stateReg := St.idle } := by
  simp [exec, execStepPbreceived, h]

theorem exec_stepPbreceived_of_invalid {s : State} (h : validFrame s.par .pb (s.readBuf .pbRx) = false) :
    exec .stepPbreceived s = .next { { s with errPb := s.errPb.succ }.emit (.chkFail .pb .steady) with
      indHeart := !s.indHeart, stateReg := St.idle } := by
  simp [exec, execStepPbreceived, h]

/-- Settles O29: VALID decides between returning the frame and counting, and either toggles the heartbeat. -/
theorem pbReceivedForwardsOrCounts : Obligations.PbReceivedForwardsOrCounts := by
  intro s f g
  refine ⟨fun hvalid => ?valid, fun hinvalid => ?invalid⟩
  case valid =>
    exact ⟨_, exec_stepPbreceived_of_valid hvalid, readBuf_hookApply_copyBuf .pb2lcd .pbRx s,
      sameOutside_hookApply_copyBuf .pb2lcd .pbRx s, rfl, rfl, trace_hookApply_copyBuf .pb2lcd .pbRx s,
      (sameBut_hookApply_copyBuf .pb2lcd .pbRx s).trans (sameBut_heartbeat _ _ _) (by simp)⟩
  case invalid =>
    have hcounted : SameBut [.errPb, .trace] s ({ s with errPb := s.errPb.succ }.emit (.chkFail .pb .steady)) :=
      (sameBut_errPb s _).trans (sameBut_emit _ _) (List.Subset.refl _)
    exact ⟨_, exec_stepPbreceived_of_invalid hinvalid, BitVec.toNat_add _ _, rfl, rfl, rfl,
      hcounted.trans (sameBut_heartbeat _ _ _) (by simp)⟩

end Sys2Proof.Machine
end

section
/-! PROOFS. The host interface (44_host_interface.md): register accesses, the completions that are discarded, and the
host's RULESET change. The fields these write share one frame; each row is then one update of the state. -/

namespace Sys2Proof.Machine

/-- The frame of the host's fields: it names every one of them whose value may change. -/
theorem sameBut_hostFields {w : List Field} {s : State} {r : Ruleset} {d p : Bool} {b : Option Byte}
    (hr : r = s.ruleset ∨ .ruleset ∈ w) (hd : d = s.debugEn ∨ .debugEn ∈ w)
    (hp : p = s.srstPending ∨ .srstPending ∈ w) (hb : b = s.readData ∨ .readData ∈ w) :
    SameBut w s { s with ruleset := r, debugEn := d, srstPending := p, readData := b } := by
  intro f hf
  cases f with
  | ruleset => exact hr.resolve_right hf
  | debugEn => exact hd.resolve_right hf
  | srstPending => exact hp.resolve_right hf
  | readData => exact hb.resolve_right hf
  | mem => exact fun _ => rfl
  | _ => rfl

theorem sameBut_hostReturns (b : Byte) (s : State) : SameBut [.readData] s (hostReturns b s) :=
  sameBut_hostFields (.inl rfl) (.inl rfl) (.inl rfl) (.inr (List.mem_singleton_self _))

theorem sameBut_debugEn (s : State) (d : Bool) : SameBut [.debugEn] s { s with debugEn := d } :=
  sameBut_hostFields (.inl rfl) (.inr (List.mem_singleton_self _)) (.inl rfl) (.inl rfl)

theorem sameBut_requestSoftReset (s : State) : SameBut [.srstPending] s (requestSoftReset s) :=
  sameBut_hostFields (.inl rfl) (.inl rfl) (.inr (List.mem_singleton_self _)) (.inl rfl)

theorem sameBut_ruleset (s : State) (r : Ruleset) : SameBut [.ruleset] s { s with ruleset := r } :=
  sameBut_hostFields (.inr (List.mem_singleton_self _)) (.inl rfl) (.inl rfl) (.inl rfl)

/-! Reads (44 R117) -/

/-- A row that returns a byte to the host leaves that byte for it and changes nothing else. -/
theorem answers_of_hostReturns {i : Instr} {b : Byte} {s : State} (h : exec i s = .next (hostReturns b s)) :
    ∃ t, exec i s = .next t ∧ t.readData = some b ∧ SameBut [.readData] s t :=
  ⟨hostReturns b s, h, hostReturns_readData b s, sameBut_hostReturns b s⟩

/-- Settles O31: each read row returns its register's byte, whatever its data bits. -/
theorem hostReadsAnswer : Obligations.HostReadsAnswer := by
  intro s d answers
  refine ⟨?ctrl, ?cmd, ?status, ?errLcd, ?errPb, ?faultCause, fun a => ?reserved67, fun a => ?reserved8F⟩
  case ctrl => exact answers_of_hostReturns (b := s.ctrlReg) rfl
  case status => exact answers_of_hostReturns (b := s.statusReg) rfl
  -- the other registers are fields of the state, and CMD and the reserved addresses read as zero
  all_goals exact answers_of_hostReturns rfl

/-! Writes (44 R118 to R121) -/

/-- A row that requests a soft reset sets SRST_PENDING and nothing else. -/
theorem latches_of_requestSoftReset {i : Instr} {s : State} (h : exec i s = .next (requestSoftReset s)) :
    ∃ t, exec i s = .next t ∧ t.srstPending = true ∧ SameBut [.srstPending] s t :=
  ⟨requestSoftReset s, h, requestSoftReset_srstPending s, sameBut_requestSoftReset s⟩

/-- Settles O33: WR CTRL writes DEBUG_EN; WR CMD with its reset bit and SRST are one request. -/
theorem hostWritesSetOneFlag : Obligations.HostWritesSetOneFlag := by
  intro s
  refine ⟨fun d => ?ctrl, fun h => ?cmd, ?srst⟩
  case ctrl => exact ⟨{ s with debugEn := d.getLsbD 0 }, rfl, rfl, sameBut_debugEn s _⟩
  case cmd => exact latches_of_requestSoftReset rfl
  case srst => exact latches_of_requestSoftReset rfl

/-- Settles O34: the meaning of each of these rows is the state it is given. -/
theorem otherHostWritesAreIgnored : Obligations.OtherHostWritesAreIgnored :=
  fun _ _ _ _ _ => ⟨rfl, rfl, rfl, rfl, rfl⟩

/-! Completions that are discarded (44 R122, 41 R88) -/

theorem exec_evDoneLcd_of_faulted {s : State} (h : s.faulted = true) :
    exec .evDoneLcd s = .next (s.emit (.done .lcd false)) :=
  congrArg Host.Outcome.next (if_pos h)

/-- Settles O39: either completion is one event in the trace. -/
theorem discardedCompletionsOnlyTrace : Obligations.DiscardedCompletionsOnlyTrace := by
  intro s
  refine ⟨?pb, fun hfaulted => ?lcd⟩
  case pb => exact ⟨s.emit (.done .pb false), rfl, s.emit_trace _, sameBut_emit s _⟩
  case lcd =>
    exact ⟨s.emit (.done .lcd false), exec_evDoneLcd_of_faulted hfaulted, s.emit_trace _, sameBut_emit s _⟩

/-! The RULESET change (44 R123) -/

/-- With a move at the head of the inbox the step takes it off and makes it (00 R15). -/
theorem step_of_move {s : State} {m : Move} {rest : List Stimulus} (h : s.env.inbox = .move m :: rest) :
    step s = moveStep m (s.withEnv { s.env with inbox := rest }) := by
  simp [step, machineStep, nextStimulus, h, runStimulus]

/-- Settles O40: the step takes the stimulus off the inbox, then writes RULESET. -/
theorem rulesetStepReplacesTheRuleset : Obligations.RulesetStepReplacesTheRuleset := by
  intro s r rest hinbox
  let u := s.withEnv { s.env with inbox := rest }
  exact ⟨{ u with ruleset := r }, step_of_move hinbox, rfl, rfl,
    (sameBut_withEnv s _).trans (sameBut_ruleset u r) (by simp)⟩

end Sys2Proof.Machine
end

section
/-! PROOFS. The indicator outputs (60 R131): what each shows by itself, and HALTED. -/

namespace Sys2Proof.Machine

theorem State.indBoot_iff (s : State) : s.indBoot = true ↔ s.stateReg = St.init ∨ s.halted = true := by
  simp only [State.indBoot, Bool.or_eq_true, beq_iff_eq]

theorem State.indSync_iff (s : State) :
    s.indSync = true ↔ s.stateReg = St.syncingPb ∨ s.stateReg = St.syncingLcd ∨ s.halted = true := by
  simp only [State.indSync, Bool.or_eq_true, beq_iff_eq, or_assoc]

theorem State.indHeartOut_iff (s : State) : s.indHeartOut = true ↔ s.indHeart = true ∨ s.halted = true :=
  Bool.or_eq_true_iff

theorem State.indFault_iff (s : State) : s.indFault = true ↔ s.faulted = true ∨ s.halted = true :=
  Bool.or_eq_true_iff

/-- Settles O52: each indicator by its own lemma, with HALTED read as STATE >= 0xC. -/
theorem indicatorsShowTheState : Obligations.IndicatorsShowTheState := by
  intro s
  simp only [← s.halted_iff]
  exact ⟨s.indBoot_iff, s.indSync_iff, s.indHeartOut_iff, s.indFault_iff⟩

end Sys2Proof.Machine
end

section
/-! PROOFS. The two resets: POR (70 R138), and the soft reset as the controller applies it (70 R139), which comes after a
fault and before any row (43 R98). -/

namespace Sys2Proof.Machine

/-! POR -/

theorem slot_powerOn (s : State) (i : Nat) : (powerOn s).slot i = none := by
  simp only [State.slot, powerOn_pbPending, cellsLookup]

/-- Settles O36: the row EV_POR is `powerOn`; the buffers and the slots are read from the lists it empties. -/
theorem powerOnSeedsEverything : Obligations.PowerOnSeedsEverything := by
  intro s
  refine ⟨powerOn s, rfl, ?controller, ?flags, ?counters, ?buffers, ?burst, ?slots, ?inputs⟩
  case buffers =>
    -- memory lists no byte after a POR, so each buffer reads as its template (00 R8, 10 R33)
    have template := readBuf_of_mem_nil (powerOn s) (powerOn_mem s)
    exact ⟨template .lcdTx, template .lcdRx, template .pbTx, template .pbRx⟩
  case slots => exact ⟨slot_powerOn s, powerOn_indHeart s, powerOn_trace s⟩
  -- the other elements are fields that `powerOn` sets or keeps
  all_goals simp only [powerOn_stateReg, powerOn_op, powerOn_idx, powerOn_attempt, powerOn_pbSynced, powerOn_debugEn,
    powerOn_faulted, powerOn_faultCause, powerOn_srstPending, powerOn_errLcd, powerOn_errPb, powerOn_lcdBusy,
    powerOn_lcdInflightTx, powerOn_par, powerOn_ruleset, powerOn_env, and_self]

/-! The soft reset in the controller's micro-step -/

theorem controllerStep_of_faulted {s : State} (h : s.faulted = true) : controllerStep s = .next s := if_pos h

theorem controllerStep_of_srstPending {s : State} (hf : s.faulted = false) (hp : s.srstPending = true) :
    controllerStep s = .next (applySoftReset s) := by
  simp [controllerStep, hf, hp]

theorem sameBut_applySoftReset (s : State) :
    SameBut [.stateReg, .op, .idx, .attempt, .pbSynced, .srstPending, .trace] s (applySoftReset s) := by
  intro f hf
  cases f with
  | stateReg | op | idx | attempt | pbSynced | srstPending | trace => simp at hf
  | mem => exact fun _ => rfl
  | _ => rfl

/-- Settles O7: the stimulus leaves the inbox, then the micro-step holds under a fault or applies the reset. -/
theorem softResetIsAppliedFirst : Obligations.SoftResetIsAppliedFirst := by
  intro s rest hinbox
  let u := s.withEnv { s.env with inbox := rest }
  have hstep : step s = controllerStep u := step_of_controller hinbox
  refine ⟨fun hfaulted => ?held, fun hfaulted hpending => ?applied⟩
  case held => exact hstep.trans (controllerStep_of_faulted hfaulted)
  case applied =>
    exact ⟨applySoftReset u, hstep.trans (controllerStep_of_srstPending hfaulted hpending), rfl, rfl, rfl, rfl, rfl, rfl,
      applySoftReset_trace u, applySoftReset_env u,
      (sameBut_withEnv s _).trans (sameBut_applySoftReset u) (by simp)⟩

end Sys2Proof.Machine
end

section
/-! PROOFS. The encoding (30_encoding.md section 5). Decoding takes a word apart into its fields, so a round trip is one
statement per format about the fields: what a selector, a host address or an operand byte decodes to, and that encoding
this gives the fields back. -/

namespace Sys2Proof

open Machine

/-! STATE: the selector {OP, STATE} -/

theorem decodeState_selector (op : BitVec 3) (st : BitVec 4) : decodeState (selector op st) = decodeStep op st := by
  simp [decodeState]

/-- Whatever pair a selector holds, its row is well formed and is encoded as that selector. -/
theorem encode_decodeStep (op : BitVec 3) (st : BitVec 4) :
    (decodeStep op st).wf = true ∧ encode (decodeStep op st) = .state (selector op st) := by
  revert op st
  decide

/-- A pair outside the allowed ones and the halt codes selects STEP_HOLD_PAIR of that pair (43 R99). -/
theorem decodeStep_of_wf {op : BitVec 3} {st : BitVec 4} (h : (Instr.stepHoldPair op st).wf = true) :
    decodeStep op st = .stepHoldPair op st := by
  revert op st
  decide

theorem decodeStep_ne_holdPair {op : BitVec 3} {st : BitVec 4} (h : allowedPair st op = true) :
    decodeStep op st ≠ .stepHoldPair op st := by
  revert op st
  decide

theorem decodeStep_of_isHalt {op : BitVec 3} {st : BitVec 4} (h : isHalt st = true) :
    decodeStep op st = .stepHalt op ∨ decodeStep op st = .stepHaltD op ∨
      decodeStep op st = .stepHaltEF op (st.extractLsb' 0 1) := by
  revert op st
  decide

theorem decodeStep_haltEF (op : BitVec 3) (low : BitVec 1) : decodeStep op (7#3 ++ low) = .stepHaltEF op low := by
  revert op low
  decide

/-- Settles O3: the selector is taken apart, then the pair decides. -/
theorem selectorsOutsideThePairsHold : Obligations.SelectorsOutsideThePairsHold := by
  intro op st
  simp only [decodeState_selector]
  exact ⟨fun hhalt hpair => decodeStep_of_wf (by simp [Instr.wf, hhalt, hpair]), decodeStep_ne_holdPair,
    decodeStep_of_isHalt⟩

/-- Settles O4: eight closed words. -/
theorem specWordsDecode : Obligations.SpecWordsDecode := by
  unfold Obligations.SpecWordsDecode
  decide

/-! HOSTBUS: {WE, ADDR, DATA} -/

theorem decodeHost_read (addr : BitVec 4) (data : Byte) : decodeHost (hostWord 0#1 addr data) = decodeRead addr data := by
  simp [decodeHost]

theorem decodeHost_write (addr : BitVec 4) (data : Byte) :
    decodeHost (hostWord 1#1 addr data) = decodeWrite addr data := by
  simp [decodeHost]

/-- The two reserved regions, 0x6 and 0x7, and 0x8 to 0xF, are read by their low bits. -/
theorem decodeRead_reserved67 (a : BitVec 1) (data : Byte) : decodeRead (3#3 ++ a) data = .rdReserved67 a data := by
  match a with
  | 0#1 => rfl
  | 1#1 => rfl

theorem decodeRead_reserved8F (a : BitVec 3) (data : Byte) : decodeRead (1#1 ++ a) data = .rdReserved8F a data := by
  match a with
  | 0#3 | 1#3 | 2#3 | 3#3 | 4#3 | 5#3 | 6#3 | 7#3 => rfl

/-- A CMD write divides on DATA[0] alone (30 R64). -/
theorem decodeWrite_cmd (high : BitVec 7) (b : BitVec 1) :
    decodeWrite 0x1#4 (high ++ b) = if b = 1#1 then .wrCmdSrst high else .wrCmdNop high := by
  have hbit : (high ++ b).extractLsb' 0 1 = b := extract_append_low high b
  have hhigh : (high ++ b).extractLsb' 1 7 = high := extract_append_high high b
  show (if (high ++ b).extractLsb' 0 1 = 1#1 then Instr.wrCmdSrst _ else Instr.wrCmdNop _) = _
  rw [hbit, hhigh]

theorem decodeWrite_ro23 (a : BitVec 1) (data : Byte) : decodeWrite (1#3 ++ a) data = .wrRo23 a data := by
  match a with
  | 0#1 | 1#1 => rfl

theorem decodeWrite_ro45 (a : BitVec 1) (data : Byte) : decodeWrite (2#3 ++ a) data = .wrRo45 a data := by
  match a with
  | 0#1 | 1#1 => rfl

theorem decodeWrite_reserved67 (a : BitVec 1) (data : Byte) : decodeWrite (3#3 ++ a) data = .wrReserved67 a data := by
  match a with
  | 0#1 | 1#1 => rfl

theorem decodeWrite_reserved8F (a : BitVec 3) (data : Byte) : decodeWrite (1#1 ++ a) data = .wrReserved8F a data := by
  match a with
  | 0#3 | 1#3 | 2#3 | 3#3 | 4#3 | 5#3 | 6#3 | 7#3 => rfl

/-- An address of a region named by its three high bits is those and its low bit. -/
theorem addr_of_region {addr : BitVec 4} {region : BitVec 3} (h : addr.extractLsb' 1 3 = region) :
    region ++ addr.extractLsb' 0 1 = addr := by
  subst h
  exact append_extract (m := 3) (n := 1) addr

/-- The six registers and the regions take every address. -/
theorem addr_regions (addr : BitVec 4) : addr ∈ [0x0#4, 0x1#4, 0x2#4, 0x3#4, 0x4#4, 0x5#4] ∨
    addr.extractLsb' 1 3 = 3#3 ∨ 1#1 ++ addr.extractLsb' 0 3 = addr := by
  revert addr
  decide

theorem encode_decodeRead (addr : BitVec 4) (data : Byte) :
    (decodeRead addr data).wf = true ∧ encode (decodeRead addr data) = .hostbus (hostWord 0#1 addr data) := by
  unfold decodeRead
  split_ifs with h0 h1 h2 h3 h4 h5 h67
  · subst h0; exact ⟨rfl, rfl⟩
  · subst h1; exact ⟨rfl, rfl⟩
  · subst h2; exact ⟨rfl, rfl⟩
  · subst h3; exact ⟨rfl, rfl⟩
  · subst h4; exact ⟨rfl, rfl⟩
  · subst h5; exact ⟨rfl, rfl⟩
  · exact ⟨rfl, by simp only [encode, addr_of_region h67]⟩
  · have hlow : addr ∉ [0x0#4, 0x1#4, 0x2#4, 0x3#4, 0x4#4, 0x5#4] := by simp [h0, h1, h2, h3, h4, h5]
    have hhigh := ((addr_regions addr).resolve_left hlow).resolve_left h67
    exact ⟨rfl, by simp only [encode, hhigh]⟩

theorem addr_of_no_writable_region {addr : BitVec 4} (hctrl : addr ≠ 0x0#4) (hcmd : addr ≠ 0x1#4)
    (h23 : addr.extractLsb' 1 3 ≠ 1#3) (h45 : addr.extractLsb' 1 3 ≠ 2#3) (h67 : addr.extractLsb' 1 3 ≠ 3#3) :
    1#1 ++ addr.extractLsb' 0 3 = addr := by
  revert addr
  decide

theorem encode_decodeWrite (addr : BitVec 4) (data : Byte) :
    (decodeWrite addr data).wf = true ∧ encode (decodeWrite addr data) = .hostbus (hostWord 1#1 addr data) := by
  unfold decodeWrite
  split_ifs with hctrl hcmd hsrst h23 h45 h67
  · subst hctrl; exact ⟨rfl, rfl⟩
  · have hdata : data.extractLsb' 1 7 ++ 1#1 = data := hsrst ▸ append_extract (m := 7) (n := 1) data
    exact ⟨rfl, by simp only [encode, hdata, hcmd]⟩
  · have hbit : data.extractLsb' 0 1 = 0#1 := (BitVec.eq_zero_or_eq_one _).resolve_right hsrst
    have hdata : data.extractLsb' 1 7 ++ 0#1 = data := hbit ▸ append_extract (m := 7) (n := 1) data
    exact ⟨rfl, by simp only [encode, hdata, hcmd]⟩
  · exact ⟨rfl, by simp only [encode, addr_of_region h23]⟩
  · exact ⟨rfl, by simp only [encode, addr_of_region h45]⟩
  · exact ⟨rfl, by simp only [encode, addr_of_region h67]⟩
  · have hhigh := addr_of_no_writable_region hctrl hcmd h23 h45 h67
    exact ⟨rfl, by simp only [encode, hhigh]⟩

/-! INTERNAL: {operands, uop} -/

/-- An operand row's word is its encoding when this holds of each operand byte the row admits (log 13). -/
theorem encode_of_withOperand {uop : BitVec 4} {arg : Byte} {used : Nat} {i j : Instr}
    (hrow : arg.toNat < 2 ^ used → i.wf = true ∧ encode i = .internal (internalWord uop arg))
    (h : withOperand uop arg used i = .ok j) : j.wf = true ∧ encode j = .internal (internalWord uop arg) := by
  unfold withOperand at h
  split at h
  case isTrue hlt => cases h; exact hrow hlt
  case isFalse => cases h

/-- Every operand byte a row has is what its operand is encoded as. -/
theorem frameOperand_decode {arg : Byte} (h : arg.toNat < 8) :
    0#5 ++ bufBits (decodeBuf (arg.extractLsb' 1 2)) ++ portBit (decodePort (arg.extractLsb' 0 1)) = arg := by
  revert arg
  decide

theorem copyOperand_decode {arg : Byte} (h : arg.toNat < 16) :
    0#4 ++ bufBits (decodeBuf (arg.extractLsb' 2 2)) ++ bufBits (decodeBuf (arg.extractLsb' 0 2)) = arg := by
  revert arg
  decide

theorem oneBitOperand_cases {arg : Byte} (h : arg.toNat < 2) : arg = 0#8 ∨ arg = 1#8 := by
  revert arg
  decide

theorem noOperand_eq {arg : Byte} (h : arg.toNat < 1) : arg = 0#8 := by
  revert arg
  decide

theorem encode_decodeInternal {w : BitVec 12} {i : Instr} (h : decodeInternal w = .ok i) :
    i.wf = true ∧ encode i = .internal w := by
  obtain ⟨uop, arg, rfl⟩ : ∃ uop arg, w = internalWord uop arg := ⟨_, _, (internalWord_fields w).symm⟩
  rw [decodeInternal, internalWord_uop, internalWord_arg] at h
  match uop with
  | 1#4 | 2#4 => -- CHECKSUM, VALID
    refine encode_of_withOperand (fun hlt => ?_) h
    exact ⟨rfl, by simp only [encode, frameOperand_decode hlt]⟩
  | 3#4 => -- COPY
    refine encode_of_withOperand (fun hlt => ?_) h
    exact ⟨rfl, by simp only [encode, copyOperand_decode hlt]⟩
  | 4#4 | 8#4 | 9#4 => -- PROBE, DELAY, HOOK_APPLY
    refine encode_of_withOperand (fun hlt => ?_) h
    rcases oneBitOperand_cases hlt with rfl | rfl <;> exact ⟨rfl, rfl⟩
  | 5#4 | 6#4 | 10#4 => -- BURST_SYNC, BURST_START, DEBUG_HOOK
    refine encode_of_withOperand (fun hlt => ?_) h
    rw [noOperand_eq hlt]
    exact ⟨rfl, rfl⟩
  | 7#4 | 11#4 => -- PACED_BYTE, PB_LAND
    cases h
    exact ⟨rfl, rfl⟩
  | 0#4 | 12#4 | 13#4 | 14#4 | 15#4 => cases h

theorem decodeInternal_pacedByte (i : Byte) : decodeInternal (internalWord 7#4 i) = .ok (.pacedByte i) := by
  simp [decodeInternal]

theorem decodeInternal_pbLand (i : Byte) : decodeInternal (internalWord 11#4 i) = .ok (.pbLand i) := by
  simp [decodeInternal]

/-- Settles O2: a word is its fields, and each format's decoder gives a row that is encoded as those fields. -/
theorem encodeOfDecodeGivesBack : Obligations.EncodeOfDecodeGivesBack := by
  intro w i h
  cases w with
  | state w =>
    cases h
    have hrow := encode_decodeStep (w.extractLsb' 4 3) (w.extractLsb' 0 4)
    rwa [selector_fields] at hrow
  | hostbus w =>
    cases h
    rw [← hostWord_fields w]
    rcases BitVec.eq_zero_or_eq_one (w.extractLsb' 12 1) with hwe | hwe
    · rw [hwe, decodeHost_read]; exact encode_decodeRead _ _
    · rw [hwe, decodeHost_write]; exact encode_decodeWrite _ _
  | event w => cases h; revert w; decide
  | internal w => exact encode_decodeInternal h

/-- Settles O1: by the row; the operands of a host row and of the two rows that take an index are read back from their
fields, and every other row has finitely many words. -/
theorem decodeOfEncodeGivesBack : Obligations.DecodeOfEncodeGivesBack := by
  intro i hwf
  cases i with
  | stepHoldPair op st => exact congrArg Except.ok ((decodeState_selector op st).trans (decodeStep_of_wf hwf))
  | stepHalt op => exact congrArg Except.ok (decodeState_selector op _)
  | stepHaltD op => exact congrArg Except.ok (decodeState_selector op _)
  | stepHaltEF op low =>
    exact congrArg Except.ok ((decodeState_selector op _).trans (decodeStep_haltEF op low))
  | rdReserved67 a d => exact congrArg Except.ok ((decodeHost_read _ d).trans (decodeRead_reserved67 a d))
  | rdReserved8F a d => exact congrArg Except.ok ((decodeHost_read _ d).trans (decodeRead_reserved8F a d))
  | rdCtrl d | rdCmd d | rdStatus d | rdErrLcd d | rdErrPb d | rdFaultCause d =>
    exact congrArg Except.ok (decodeHost_read _ d)
  | wrCtrl d => exact congrArg Except.ok (decodeHost_write _ d)
  | wrCmdSrst h => exact congrArg Except.ok ((decodeHost_write _ _).trans (decodeWrite_cmd h 1#1))
  | wrCmdNop h => exact congrArg Except.ok ((decodeHost_write _ _).trans (decodeWrite_cmd h 0#1))
  | wrRo23 a d => exact congrArg Except.ok ((decodeHost_write _ d).trans (decodeWrite_ro23 a d))
  | wrRo45 a d => exact congrArg Except.ok ((decodeHost_write _ d).trans (decodeWrite_ro45 a d))
  | wrReserved67 a d => exact congrArg Except.ok ((decodeHost_write _ d).trans (decodeWrite_reserved67 a d))
  | wrReserved8F a d => exact congrArg Except.ok ((decodeHost_write _ d).trans (decodeWrite_reserved8F a d))
  | checksum ch b => cases ch <;> cases b <;> rfl
  | valid ch b => cases ch <;> cases b <;> rfl
  | copy src dst => cases src <;> cases dst <;> rfl
  | probe p => cases p <;> rfl
  | delay k => cases k <;> rfl
  | hookApply d => cases d <;> rfl
  | pacedByte i => exact decodeInternal_pacedByte i
  | pbLand i => exact decodeInternal_pbLand i
  | stepInit | stepSyncpbProbe | stepSyncpbDelay | stepSyncedpb | stepSynclcdProbe | stepSynclcdTail | stepSyncedlcd
  | stepIdle | stepRequestlcd | stepAwaitinglcd | stepLcdreceived | stepRequestpbXfer | stepRequestpbDelay
  | stepAwaitingpb | stepPbreceived | evPor | evSrst | evDoneLcd | evDonePb | burstSync | burstStart | debugHook => rfl

end Sys2Proof
end

section
/-! PROOFS. The rows not settled above: the completion of an LCD burst (41 R88, 43 R106), CHECKSUM and VALID on their own
(40 R75, R76), BURST_START and PACED_BYTE on their own (41 R87, R89), PB_LAND (20 R51) and DEBUG_HOOK (43 R114). -/

namespace Sys2Proof.Machine

/-! The completion guard (43 R106) -/

theorem completionGuard_stateReg (s : State) :
    (completionGuard s).stateReg = if s.stateReg = St.awaitingLcd then St.lcdReceived else s.stateReg := by
  unfold completionGuard
  split <;> rfl

theorem completionGuard_trace (s : State) :
    (completionGuard s).trace = s.trace ++ [.done .lcd (s.stateReg == St.awaitingLcd)] := by
  unfold completionGuard
  split <;> simp [*]

theorem sameBut_completionGuard (s : State) : SameBut [.stateReg, .trace] s (completionGuard s) := by
  unfold completionGuard
  split
  · exact (sameBut_stateReg s _).trans (sameBut_emit _ _) (List.Subset.refl _)
  · exact (sameBut_emit s _).mono (by simp)

/-! DONE(LCD) (41 R88) -/

theorem sameBut_landBurst (rx : List Byte) (s : State) : SameBut [.mem, .lcdBusy, .trace] s (landBurst rx s) := by
  intro f hf
  cases f with
  | mem | lcdBusy | trace => simp at hf
  | _ => simp [Field.same]

theorem readBuf_landBurst {rx : List Byte} {s : State} (hrx : rx.length = s.par.n) :
    (landBurst rx s).readBuf .lcdRx = rx := readBuf_writeBuf_same s .lcdRx rx hrx

theorem sameOutside_landBurst {rx : List Byte} {s : State} (hrx : rx.length = s.par.n) :
    SameOutside s (landBurst rx s) (s.base .lcdRx) s.par.n := byteAt_writeBuf_outside s .lcdRx rx hrx

theorem landBurst_trace (rx : List Byte) (s : State) : (landBurst rx s).trace = s.trace ++ [.land .lcd 0 rx] :=
  congrArg (· ++ _) (State.writeBuf_trace s .lcdRx rx)

theorem exec_evDoneLcd_of_taken {s : State} (hf : s.faulted = false) :
    exec .evDoneLcd s = .next (takeCompletion s) := congrArg Host.Outcome.next (if_neg (Bool.eq_false_iff.mp hf))

theorem takeCompletion_of_done {s : State} {e : Env} {rx : List Byte} (hb : s.lcdBusy = true)
    (hd : doneDraw s.par.block s.par.n s.env = (.done rx, e)) :
    takeCompletion s = completionGuard (landBurst rx (s.withEnv e)) := by
  simp [takeCompletion, hb, hd]

/-- With no burst in flight the form is SPURIOUS and nothing is drawn (log 6, 35). -/
theorem takeCompletion_of_spurious {s : State} {e : Env}
    (h : s.lcdBusy = false ∨ doneDraw s.par.block s.par.n s.env = (.spurious, e)) :
    ∃ e', takeCompletion s = completionGuard (s.withEnv e') := by
  cases hb : s.lcdBusy with
  | false => exact ⟨s.env, if_neg (Bool.eq_false_iff.mp hb)⟩
  | true =>
    have hd := h.resolve_left (by simp [hb])
    exact ⟨e, by simp [takeCompletion, hb, hd]⟩

/-- Settles O37: the landing, then the guard. -/
theorem lcdCompletionLandsThenGuards : Obligations.LcdCompletionLandsThenGuards := by
  intro s e rx hf hb hd
  let u := s.withEnv e
  let v := landBurst rx u
  have hrx : rx.length = u.par.n := doneDraw_length hd
  have hguard : SameBut [.stateReg, .trace] v (completionGuard v) := sameBut_completionGuard v
  have hlanded : SameBut [.env, .mem, .lcdBusy, .trace] s v :=
    (sameBut_withEnv s e).trans (sameBut_landBurst rx u) (List.Subset.refl _)
  refine ⟨completionGuard v, (exec_evDoneLcd_of_taken hf).trans (congrArg _ (takeCompletion_of_done hb hd)), ?bytes,
    ?outside, completionGuard_lcdBusy v, ?state, ?trace, ?env, hlanded.trans hguard (by simp)⟩
  case bytes =>
    rw [readBuf_congr (completionGuard_mem v) (completionGuard_par v)]
    exact readBuf_landBurst hrx
  case outside =>
    exact fun a ha => (hguard .mem (by simp) a).trans (sameOutside_landBurst hrx a ha)
  case state => simp [completionGuard_stateReg, v, u]
  case trace => simp [completionGuard_trace, landBurst_trace, v, u]
  case env => simp [v, u]

/-- Settles O38: the guard alone. -/
theorem spuriousCompletionOnlyGuards : Obligations.SpuriousCompletionOnlyGuards := by
  intro s e hf h
  obtain ⟨e', htaken⟩ := takeCompletion_of_spurious h
  exact ⟨_, (exec_evDoneLcd_of_taken hf).trans (congrArg _ htaken), completionGuard_stateReg _,
    completionGuard_trace _, (sameBut_withEnv s e').trans (sameBut_completionGuard _) (by simp)⟩

/-! CHECKSUM and VALID on their own (40 R75, R76) -/

/-- The checksum byte of a buffer is its byte `N-1`. -/
theorem chkByte_readBuf (s : State) (b : Buf) : chkByte s.par (s.readBuf b) = s.bufByte b (s.par.n - 1) :=
  readBuf_getD s b _ (by have := s.par.n_ge; omega)

/-- Settles O41: each row leaves its answer in the result field. -/
theorem checksumAndValidRowsAnswer : Obligations.ChecksumAndValidRowsAnswer := by
  intro s ch b
  refine ⟨⟨_, rfl, rfl, sameBut_opResult s _⟩, ⟨_, rfl, ?_, sameBut_opResult s _⟩⟩
  simp only [boolByte, validFrame_iff, chkByte_readBuf, body]

/-! BURST_START on its own (41 R87) -/

theorem exec_burstStart_of_start {s : State} {x : Xfer Unit} (hb : s.lcdBusy = false) (h : burstStartOp s = x) :
    exec .burstStart s = .next (x.andThen fun _ t => t) := by
  subst h
  exact congrArg Host.Outcome.next (if_neg (Bool.eq_false_iff.mp hb))

/-- Settles O46: a burst in flight makes the row wait; without one the answer of the LCD decides. -/
theorem burstStartTakesTheSnapshot : Obligations.BurstStartTakesTheSnapshot := by
  intro s e
  refine ⟨fun hb => ?busy, fun hb hd => ?ok, fun hb hd => ?fail⟩
  case busy => exact congrArg Host.Outcome.next (if_pos hb)
  case ok =>
    exact ⟨_, exec_burstStart_of_start hb (burstStartOp_of_ok hd), rfl, rfl, rfl, rfl,
      (sameBut_transaction s e _).trans (sameBut_inflight _ (s.readBuf .lcdTx) true) (by simp)⟩
  case fail =>
    exact ⟨_, exec_burstStart_of_start hb (burstStartOp_of_fail hd), faultEntered_of_failed 0x13#8 _ s e⟩

/-! PACED_BYTE on its own (41 R89) -/

theorem exec_pacedByte_of_lt {s : State} {i : Byte} {x : Xfer Unit} (hi : i.toNat < s.par.n)
    (h : pacedByteOp i.toNat s = x) : exec (.pacedByte i) s = .next (x.andThen fun _ t => t) := by
  subst h
  exact if_pos hi

/-- Settles O47: the answer of the PB decides the transaction, and a byte received lands. -/
theorem pacedByteExchangesOneByte : Obligations.PacedByteExchangesOneByte := by
  intro s e i hi
  refine ⟨fun b hd => ?byte, fun hd => ?fail⟩
  case byte =>
    let u := (s.withEnv e).emit (.xfer .pb .pacedByte [s.bufByte .pbTx i.toNat] .ok (some [b]))
    have htrace : (landPb i.toNat b u).trace =
        s.trace ++ .xfer .pb .pacedByte [s.bufByte .pbTx i.toNat] .ok (some [b]) :: landEvents i.toNat s :=
      (landPb_trace_events i.toNat b u).trans (List.append_assoc _ _ _)
    exact ⟨_, exec_pacedByte_of_lt hi (pacedByteOp_of_byte _ hd),
      landed_congr (landPb_landed i.toNat b u) rfl rfl rfl rfl rfl rfl, htrace, landPb_env i.toNat b u,
      (sameBut_transaction s e _).trans (sameBut_landPb i.toNat b u) (by simp)⟩
  case fail => exact ⟨_, exec_pacedByte_of_lt hi (pacedByteOp_of_fail _ hd), faultEntered_of_failed 0x24#8 _ s e⟩

/-- Settles O30: both Paced rows test the index first. -/
theorem pacedByteStopsPastTheFrame : Obligations.PacedByteStopsPastTheFrame :=
  fun _ => ⟨fun hpast => if_neg (Nat.not_lt.mpr hpast), fun _ hpast => if_neg (Nat.not_lt.mpr hpast)⟩

/-! PB_LAND (20 R51) -/

theorem exec_pbLand_of_slot {s : State} {i p : Byte} (hrace : s.par.race = .anyPending)
    (hslot : s.slot i.toNat = some p) : exec (.pbLand i) s =
      .next ((landPending i.toNat p s).withPending (cellsErase i.toNat s.pbPending)) := by
  simp [exec, execPbLand, hrace, hslot]

theorem exec_pbLand_of_none {s : State} {i : Byte} (h : s.par.race = .exact ∨ s.slot i.toNat = none) :
    exec (.pbLand i) s = .next s := by
  rcases h with h | h <;> simp [exec, execPbLand, h]

theorem sameBut_withPending (s : State) (c : List Host.Cell) : SameBut [.pbPending] s (s.withPending c) := by
  intro f hf
  cases f with
  | pbPending => simp at hf
  | mem => exact fun _ => rfl
  | _ => rfl

theorem sameBut_landPending (i : Nat) (p : Byte) (s : State) : SameBut [.mem, .trace] s (landPending i p s) :=
  (sameBut_withMem s _).trans (sameBut_emit _ _) (List.Subset.refl _)

/-- Settles O49: a held slot lands as one byte and is erased; otherwise the row holds. -/
theorem pbLandLandsOneSlot : Obligations.PbLandLandsOneSlot := by
  intro s i
  refine ⟨fun p hrace hslot => ?held, fun h => exec_pbLand_of_none h⟩
  case held =>
    refine ⟨_, exec_pbLand_of_slot hrace hslot, ?byte, sameOutside_writeBytes s (s.base .pbRx + i.toNat) [p], ?slot,
      ?others, rfl, (sameBut_landPending i.toNat p s).trans (sameBut_withPending _ _) (by simp)⟩
    case byte => exact (byteAt_writeByte s _ _ p).trans (if_pos rfl)
    case slot => exact (cellsLookup_erase _ _ _).trans (if_pos rfl)
    case others => exact fun j hj => (cellsLookup_erase _ _ _).trans (if_neg hj.symm)

/-! DEBUG_HOOK (43 R114) -/

/-- Settles O51: enabled, the hook adds one at its target; disabled, the row holds. -/
theorem debugHookIncrementsOneByte : Obligations.DebugHookIncrementsOneByte := by
  intro s
  cases hd : s.debugEn with
  | true =>
    exact ⟨debugHookOp (s.readBuf .lcdRx) s, congrArg Host.Outcome.next (if_pos hd),
      fun a => by simp [debugHook_byteAt], sameBut_debugHookOp _ s⟩
  | false => exact ⟨s, congrArg Host.Outcome.next (if_neg (Bool.eq_false_iff.mp hd)), by simp, .refl _ s⟩

end Sys2Proof.Machine
end

section
/-! PROOFS. The step (00 R15, 43 R98): what a stimulus at the head of the inbox makes it, and that a word placed by
`withFetchWord` is such a stimulus (log 15). -/

namespace Sys2Proof.Machine

/-- Without a fault and a pending soft reset the micro-step is the selected row. -/
theorem controllerStep_of_ready {s : State} (hf : s.faulted = false) (hp : s.srstPending = false) :
    controllerStep s = exec (decodeState s.selector) s := by
  simp [controllerStep, hf, hp]

theorem step_of_datapath {s : State} {w : BitVec 12} {rest : List Stimulus} (h : s.env.inbox = .datapath w :: rest) :
    step s = datapathStep w (s.withEnv { s.env with inbox := rest }) := by
  simp [step, machineStep, nextStimulus, h, runStimulus]

theorem datapathStep_of_ok {s : State} {w : BitVec 12} {i : Instr} (hf : s.faulted = false)
    (hw : decodeInternal w = .ok i) : datapathStep w s = exec i s := by
  simp [datapathStep, hf, hw]

/-- Settles O5: the stimulus leaves the inbox, and the interface it arrives at decodes its word. -/
theorem stepRunsTheDecodedInstruction : Obligations.StepRunsTheDecodedInstruction := by
  intro s i rest u
  refine ⟨fun hinbox hf hp hw => ?controller, fun w hinbox hw => ?host, fun w hinbox hw => ?event,
    fun k hinbox => step_of_move hinbox, fun w hinbox hf hw => ?datapath, fun hinbox => ?free⟩
  case controller =>
    rw [step_of_controller hinbox, controllerStep_of_ready (s := u) hf hp]
    exact congrArg (exec · u) (Except.ok.inj hw)
  case host => exact (step_of_move hinbox).trans (congrArg (exec · u) (Except.ok.inj hw))
  case event => exact (step_of_move hinbox).trans (congrArg (exec · u) (Except.ok.inj hw))
  case datapath => exact (step_of_datapath hinbox).trans (datapathStep_of_ok (s := u) hf hw)
  case free => simp [step, machineStep, nextStimulus, hinbox, runStimulus]

theorem decodeTableWord_eq_some {nbits w : Nat} {i : Instr} (h : decodeTableWord nbits w = some i) :
    ∃ c, wordOfBits (formatOfWidth nbits) w = .ok c ∧ decode c = .ok i := by
  unfold decodeTableWord decodeBits at h
  cases hc : wordOfBits (formatOfWidth nbits) w with
  | error e => simp [hc] at h
  | ok c =>
    refine ⟨c, rfl, ?_⟩
    cases hd : decode c with
    | error e => simp [hc, hd] at h
    | ok j => simpa [hc, hd] using h

theorem withFetchWord_of_ok {s : State} {nbits w : Nat} {c : CodeWord}
    (h : wordOfBits (formatOfWidth nbits) w = .ok c) : s.withFetchWord nbits w = s.placeWord c := by
  simp [State.withFetchWord, State.placeBits, h]

/-- What placing a word writes besides the inbox: the selector, and what would pre-empt its row. -/
theorem sameBut_placed (s : State) (st : BitVec 4) (o : BitVec 3) (f p : Bool) :
    SameBut [.stateReg, .op, .faulted, .srstPending] s
      { s with stateReg := st, op := o, faulted := f, srstPending := p } := by
  intro f hf
  cases f with
  | stateReg | op | faulted | srstPending => simp at hf
  | mem => exact fun _ => rfl
  | _ => rfl

/-- A code word placed is the next stimulus, and nothing pre-empts it. -/
theorem step_placeWord {s : State} {c : CodeWord} {i : Instr} (h : decode c = .ok i) :
    ∃ t, step (s.placeWord c) = exec i t ∧ SameBut [.stateReg, .op, .faulted, .srstPending] s t := by
  obtain ⟨controller, host, event, -, datapath, -⟩ :=
    stepRunsTheDecodedInstruction (s.placeWord c) i s.env.inbox
  cases c with
  | state w =>
    have hselector : (s.placeWord (.state w)).selector = w := selector_fields w
    exact ⟨_, controller rfl rfl rfl (hselector.symm ▸ h), sameBut_placed s _ _ _ _⟩
  | hostbus w => exact ⟨_, host w rfl h, sameBut_placed s _ _ _ _⟩
  | event w => exact ⟨_, event w rfl h, sameBut_placed s _ _ _ _⟩
  | internal w => exact ⟨_, datapath w rfl rfl h, sameBut_placed s _ _ _ _⟩

/-- Settles O6: the bare word is a code word of its format, and that is placed. -/
theorem placedWordRunsNext : Obligations.PlacedWordRunsNext := by
  intro s nbits w i h
  obtain ⟨c, hc, hi⟩ := decodeTableWord_eq_some h
  rw [withFetchWord_of_ok hc]
  exact step_placeWord hi

end Sys2Proof.Machine
end

section
/-! PROOFS. What each row of the opcode table may write, and how many port transactions it may trace, said once for all
rows: the statements about every step (10 R32, R37; 30 R59; 60 R126 to R128) are read off these two tables. -/

namespace Sys2Proof.Machine

/-- From `s` to `t` at most the elements `w` were written, and the trace only grew, by at most `n` port transactions. -/
structure Effect (w : List Field) (n : Nat) (s t : State) : Prop where
  frame : SameBut w s t
  trace : ∃ es, t.trace = s.trace ++ es ∧ (es.filter Event.isXfer).length ≤ n

/-! How effects are built -/

theorem Effect.of_frame {w : List Field} {n : Nat} {s t : State} (h : SameBut w s t) (htrace : t.trace = s.trace) :
    Effect w n s t := ⟨h, [], by simp [htrace], by simp⟩

theorem Effect.refl (w : List Field) (n : Nat) (s : State) : Effect w n s s := .of_frame (.refl w s) rfl

theorem Effect.trans {w : List Field} {n m k : Nat} {s t u : State} (hst : Effect w n s t) (htu : Effect w m t u)
    (hk : n + m ≤ k) : Effect w k s u := by
  obtain ⟨es, hes, hn⟩ := hst.trace
  obtain ⟨fs, hfs, hm⟩ := htu.trace
  refine ⟨hst.frame.trans htu.frame (by simp), es ++ fs, by rw [hfs, hes, List.append_assoc], ?_⟩
  rw [List.filter_append, List.length_append]
  omega

theorem Effect.mono {v w : List Field} {n : Nat} {s t : State} (h : Effect v n s t) (hw : v ⊆ w) : Effect w n s t :=
  ⟨h.frame.mono hw, h.trace⟩

/-- An event that is no transaction. -/
theorem effect_emit {s : State} {ev : Event} (hev : ev.isXfer = false) : Effect [.trace] 0 s (s.emit ev) :=
  ⟨sameBut_emit s ev, [ev], rfl, by simp [hev]⟩

theorem effect_transaction (s : State) (e : Env) (ev : Event) : Effect [.env, .trace] 1 s ((s.withEnv e).emit ev) :=
  ⟨sameBut_transaction s e ev, [ev], rfl, List.length_filter_le _ _⟩

theorem effect_landPb (i : Nat) (b : Byte) (s : State) : Effect [.mem, .pbPending, .trace] 0 s (landPb i b s) := by
  refine ⟨sameBut_landPb i b s, landEvents i s, landPb_trace_events i b s, ?_⟩
  unfold landEvents
  split <;> simp [Event.isXfer]

theorem effect_hookApply_copyBuf (d : Dir) (src : Buf) (s : State) :
    Effect [.mem, .trace] 0 s (hookApplyOp d (s.copyBuf src (Dir.buffer d))) :=
  ⟨sameBut_hookApply_copyBuf d src s, _, trace_hookApply_copyBuf d src s, by simp [Event.isXfer]⟩

theorem effect_completionGuard (s : State) : Effect [.stateReg, .trace] 0 s (completionGuard s) :=
  ⟨sameBut_completionGuard s, _, completionGuard_trace s, by simp [Event.isXfer]⟩

theorem effect_landBurst (rx : List Byte) (s : State) : Effect [.mem, .lcdBusy, .trace] 0 s (landBurst rx s) :=
  ⟨sameBut_landBurst rx s, _, landBurst_trace rx s, by simp [Event.isXfer]⟩

/-! The port transactions, with the rest of the row after them -/

/-- What a transaction may write: its event, the environment, a received byte, and a fault (41 R80, 20 R51, 60 R126). -/
def xferFields : List Field := [.faulted, .faultCause, .mem, .pbPending, .trace, .env]

theorem effect_held (s : State) (e : Env) : Effect xferFields 1 s (s.withEnv e) :=
  .of_frame ((sameBut_withEnv s e).mono (by simp [xferFields])) rfl

theorem effect_failed (code : Byte) (s : State) (e : Env) (ev : Event) :
    Effect xferFields 1 s (raiseTransportFault code ((s.withEnv e).emit ev)) := by
  have hfault : Effect xferFields 0 ((s.withEnv e).emit ev) (raiseTransportFault code ((s.withEnv e).emit ev)) :=
    ⟨(sameBut_raiseTransportFault code _).mono (by simp [xferFields]), [.fault code], rfl, by simp [Event.isXfer]⟩
  exact ((effect_transaction s e ev).mono (by simp [xferFields])).trans hfault le_rfl

theorem effect_received_pb (i : Nat) (b : Byte) (s : State) (e : Env) (ev : Event) :
    Effect xferFields 1 s (landPb i b ((s.withEnv e).emit ev)) :=
  ((effect_transaction s e ev).mono (by simp [xferFields])).trans
    ((effect_landPb i b _).mono (by simp [xferFields])) le_rfl

theorem effect_received_lcd (a : Nat) (rx : List Byte) (s : State) (e : Env) (ev : Event) :
    Effect xferFields 1 s (((s.withEnv e).emit ev).writeBytes a rx) :=
  ((effect_transaction s e ev).mono (by simp [xferFields])).trans
    (.of_frame ((sameBut_writeBytes _ a rx).mono (by simp [xferFields])) (State.writeBytes_trace _ a rx))
    (Nat.le_refl (1 + 0))

section
variable {w : List Field} (s : State)

theorem effect_probeOp (p : Port) {k : Byte → State → State} (hw : xferFields ⊆ w)
    (hk : ∀ b t, Effect w 0 t (k b t)) : Effect w 1 s ((probeOp p s).andThen k) := by
  refine probeOp_elim p s k (fun e => (effect_held s e).mono hw) (fun e => (effect_failed _ s e _).mono hw) ?lcd ?pb
  case lcd => intro _ _ e b; exact ((effect_received_lcd _ [b] s e _).mono hw).trans (hk b _) le_rfl
  case pb => intro _ e b; exact ((effect_received_pb 0 b s e _).mono hw).trans (hk b _) le_rfl

theorem effect_burstSyncOp {k : Unit → State → State} (hw : xferFields ⊆ w) (hk : ∀ t, Effect w 0 t (k () t)) :
    Effect w 1 s ((burstSyncOp s).andThen k) := by
  refine burstSyncOp_elim s k (fun e => (effect_held s e).mono hw) (fun e => (effect_failed _ s e _).mono hw) ?done
  case done => intro _ e rx _; exact ((effect_received_lcd _ rx s e _).mono hw).trans (hk _) le_rfl

theorem effect_burstStartOp (hw : xferFields ⊆ w) (hburst : [.lcdInflightTx, .lcdBusy] ⊆ w) :
    Effect w 1 s ((burstStartOp s).andThen fun _ t => t) := by
  refine burstStartOp_elim s _ (fun e => (effect_failed _ s e _).mono hw) fun e => ?done
  case done =>
    exact ((effect_transaction s e _).mono fun f hf => hw (by revert f; simp [xferFields])).trans
      (.of_frame ((sameBut_inflight _ _ _).mono hburst) rfl) (Nat.le_refl (1 + 0))

theorem effect_pacedByteOp (i : Nat) {k : Unit → State → State} (hw : xferFields ⊆ w)
    (hk : ∀ t, Effect w 0 t (k () t)) : Effect w 1 s ((pacedByteOp i s).andThen k) := by
  refine pacedByteOp_elim i s k (fun e => (effect_failed _ s e _).mono hw) fun e b => ?done
  case done => exact ((effect_received_pb i b s e _).mono hw).trans (hk _) le_rfl

end

/-! The rows -/

/-- The elements a row may write: what the rules say it writes, and a fault where it makes a transaction. -/
def writes : Instr → List Field
  | .stepInit => [.attempt, .op, .stateReg]
  | .stepSyncpbProbe => xferFields ++ [.attempt, .pbSynced, .op, .stateReg]
  | .stepSyncpbDelay => [.op, .trace]
  | .stepSyncedpb => [.op, .stateReg]
  | .stepSynclcdProbe => xferFields ++ [.op]
  | .stepSynclcdTail => xferFields ++ [.stateReg, .op]
  | .stepSyncedlcd | .stepIdle => [.stateReg]
  | .stepRequestlcd => xferFields ++ [.stateReg, .lcdInflightTx, .lcdBusy]
  | .stepLcdreceived => [.mem, .errLcd, .idx, .op, .stateReg, .trace]
  | .stepRequestpbXfer => xferFields ++ [.stateReg, .op]
  | .stepRequestpbDelay => [.idx, .op, .trace]
  | .stepPbreceived => [.mem, .errPb, .indHeart, .stateReg, .trace]
  | .stepAwaitinglcd | .stepAwaitingpb | .stepHalt _ | .stepHaltD _ | .stepHaltEF _ _ | .stepHoldPair _ _ => []
  | .rdCtrl _ | .rdCmd _ | .rdStatus _ | .rdErrLcd _ | .rdErrPb _ | .rdFaultCause _ | .rdReserved67 _ _
  | .rdReserved8F _ _ => [.readData]
  | .wrCtrl _ => [.debugEn]
  | .wrCmdSrst _ | .evSrst => [.srstPending]
  | .wrCmdNop _ | .wrRo23 _ _ | .wrRo45 _ _ | .wrReserved67 _ _ | .wrReserved8F _ _ => []
  | .evPor =>
    [.stateReg, .op, .idx, .attempt, .pbSynced, .debugEn, .faulted, .faultCause, .srstPending, .errLcd, .errPb, .mem,
      .lcdBusy, .lcdInflightTx, .pbPending, .indHeart, .trace, .readData, .opResult]
  | .evDoneLcd => [.mem, .lcdBusy, .stateReg, .trace, .env]
  | .evDonePb | .delay _ => [.trace]
  | .checksum _ _ | .valid _ _ => [.opResult]
  | .copy _ _ | .debugHook => [.mem]
  | .probe _ => xferFields ++ [.opResult]
  | .burstSync | .pacedByte _ => xferFields
  | .burstStart => xferFields ++ [.lcdInflightTx, .lcdBusy]
  | .hookApply _ => [.mem, .trace]
  | .pbLand _ => [.mem, .pbPending, .trace]

/-- The port transactions a row may make (60 R127). -/
def calls : Instr → Nat
  | .stepSyncpbProbe | .stepSynclcdProbe | .stepSynclcdTail | .stepRequestlcd | .stepRequestpbXfer | .probe _
  | .burstSync | .burstStart | .pacedByte _ => 1
  | _ => 0

theorem calls_le_one (i : Instr) : calls i ≤ 1 := by
  unfold calls
  split <;> decide

theorem effect_syncPbDecide (b : Byte) (s : State) :
    Effect [.attempt, .pbSynced, .op, .stateReg] 0 s (syncPbDecide b s) := by
  obtain ⟨synced, st, op, ht, -⟩ := syncPbDecide_eq b s
  rw [ht]
  exact .of_frame (sameBut_scanFields s _ synced st op) rfl

theorem effect_goto (s : State) (st : BitVec 4) (o : BitVec 3) : Effect [.stateReg, .op] 0 s (s.goto st o) :=
  .of_frame (sameBut_goto s st o) rfl

theorem effect_goto_self (s : State) (o : BitVec 3) : Effect [.op] 0 s (s.goto s.stateReg o) :=
  .of_frame (sameBut_goto_self s o) rfl

theorem effect_syncLcdDecide (s : State) : Effect [.trace, .stateReg, .op] 0 s (syncLcdDecide s) := by
  unfold syncLcdDecide
  split
  · exact (effect_goto s _ _).mono (by simp)
  · exact ((effect_emit rfl).mono (by simp)).trans ((effect_goto _ _ _).mono (by simp)) le_rfl

theorem effect_delay_goto (k : DelayKind) (s : State) (o : BitVec 3) :
    Effect [.op, .trace] 0 s ((delayOp k s).goto s.stateReg o) :=
  ((effect_emit rfl).mono (by simp)).trans ((effect_goto_self (delayOp k s) o).mono (by simp)) le_rfl

theorem effect_stepRequestlcd (s : State) :
    Effect (writes .stepRequestlcd) 1 s
      (if s.lcdBusy then s else (burstStartOp { s with stateReg := St.awaitingLcd }).andThen fun _ t => t) := by
  split
  · exact .refl _ _ s
  · have hstate : Effect (writes .stepRequestlcd) 0 s { s with stateReg := St.awaitingLcd } :=
      .of_frame ((sameBut_stateReg s _).mono (by simp [writes])) rfl
    exact hstate.trans (effect_burstStartOp _ (by simp [writes]) (by simp [writes])) le_rfl

theorem effect_stepLcdreceived {s t : State} (h : exec .stepLcdreceived s = .next t) :
    Effect (writes .stepLcdreceived) 0 s t := by
  obtain ⟨hvalid, hinvalid⟩ := lcdReceivedForwardsOrCounts s
  cases hf : validFrame s.par .lcd (s.readBuf .lcdRx) with
  | true =>
    obtain ⟨u, hu, -, -, -, -, -, htrace, hframe⟩ := hvalid hf
    cases hu.symm.trans h
    exact ⟨hframe.mono (by simp [writes]), _, htrace, by simp [Event.isXfer]⟩
  | false =>
    obtain ⟨u, hu, -, -, -, -, htrace, hframe⟩ := hinvalid hf
    cases hu.symm.trans h
    exact ⟨hframe.mono (by simp [writes]), _, htrace, by simp [Event.isXfer]⟩

theorem effect_stepPbreceived {s t : State} (h : exec .stepPbreceived s = .next t) :
    Effect (writes .stepPbreceived) 0 s t := by
  obtain ⟨hvalid, hinvalid⟩ := pbReceivedForwardsOrCounts s
  cases hf : validFrame s.par .pb (s.readBuf .pbRx) with
  | true =>
    obtain ⟨u, hu, -, -, -, -, htrace, hframe⟩ := hvalid hf
    cases hu.symm.trans h
    exact ⟨hframe.mono (by simp [writes]), _, htrace, by simp [Event.isXfer]⟩
  | false =>
    obtain ⟨u, hu, -, -, -, htrace, hframe⟩ := hinvalid hf
    cases hu.symm.trans h
    exact ⟨hframe.mono (by simp [writes]), _, htrace, by simp [Event.isXfer]⟩

theorem effect_stepRequestpbXfer {s t : State} (h : exec .stepRequestpbXfer s = .next t) :
    Effect (writes .stepRequestpbXfer) 1 s t := by
  change execStepRequestpbXfer s = _ at h
  unfold execStepRequestpbXfer at h
  split at h
  · cases h
    refine effect_pacedByteOp s _ (by simp [writes]) fun t => ?_
    split
    · exact (effect_goto t _ _).mono (by simp [writes])
    · exact (effect_goto t _ _).mono (by simp [writes])
  · cases h

theorem effect_takeCompletion (s : State) : Effect (writes .evDoneLcd) 0 s (takeCompletion s) := by
  have henv (e : Env) : Effect (writes .evDoneLcd) 0 s (s.withEnv e) :=
    .of_frame ((sameBut_withEnv s e).mono (by simp [writes])) rfl
  have hguard (t : State) : Effect (writes .evDoneLcd) 0 t (completionGuard t) :=
    (effect_completionGuard t).mono (by simp [writes])
  refine takeCompletion_elim s (fun e => (henv e).trans (hguard _) le_rfl) fun _ e rx _ => ?ended
  case ended =>
    have hland := (effect_landBurst rx (s.withEnv e)).mono (w := writes .evDoneLcd) (by simp [writes])
    exact ((henv e).trans hland le_rfl).trans (hguard _) le_rfl

theorem effect_pbLand {s t : State} {i : Byte} (h : exec (.pbLand i) s = .next t) :
    Effect (writes (.pbLand i)) 0 s t := by
  obtain ⟨hheld, hnone⟩ := pbLandLandsOneSlot s i
  cases hr : s.par.race with
  | exact => cases (hnone (.inl hr)).symm.trans h; exact .refl _ _ s
  | anyPending =>
    cases hs : s.slot i.toNat with
    | none => cases (hnone (.inr hs)).symm.trans h; exact .refl _ _ s
    | some p =>
      obtain ⟨u, hu, -, -, -, -, htrace, hframe⟩ := hheld p hr hs
      cases hu.symm.trans h
      exact ⟨hframe, _, htrace, by simp [Event.isXfer]⟩

/-- Every row but POR's writes what `writes` names and appends to the trace, with as many transactions as `calls`
names. -/
theorem exec_effect {i : Instr} {s t : State} (h : exec i s = .next t) (hpor : i ≠ .evPor) :
    Effect (writes i) (calls i) s t := by
  cases i with
  | stepInit =>
    cases h
    exact .of_frame ((sameBut_attempt s _).trans (sameBut_goto _ _ _) (by simp [writes])) rfl
  | stepSyncpbProbe =>
    cases h
    exact effect_probeOp s .pb (by simp [writes]) fun b t => (effect_syncPbDecide b t).mono (by simp [writes])
  | stepSyncpbDelay => cases h; exact effect_delay_goto .retry s _
  | stepSyncedpb => cases h; exact (effect_goto s _ _).mono (by simp [writes])
  | stepSynclcdProbe =>
    cases h
    refine effect_probeOp s .lcd (by simp [writes]) fun b t => ?_
    split
    · exact (effect_goto_self t _).mono (by simp [writes])
    · exact .refl _ _ t
  | stepSynclcdTail =>
    cases h
    exact effect_burstSyncOp s (by simp [writes]) fun t =>
      (effect_syncLcdDecide t).mono (by simp [writes, xferFields])
  | stepSyncedlcd | stepIdle => cases h; exact .of_frame (sameBut_stateReg s _) rfl
  | stepRequestlcd => cases h; exact effect_stepRequestlcd s
  | stepLcdreceived => exact effect_stepLcdreceived h
  | stepRequestpbXfer => exact effect_stepRequestpbXfer h
  | stepRequestpbDelay =>
    obtain ⟨u, hu, -, -, htrace, hframe⟩ := requestPbDelayAdvancesTheIndex s
    cases hu.symm.trans h
    exact ⟨hframe, _, htrace, by simp [Event.isXfer]⟩
  | stepPbreceived => exact effect_stepPbreceived h
  | rdCtrl | rdCmd | rdStatus | rdErrLcd | rdErrPb | rdFaultCause | rdReserved67 | rdReserved8F =>
    cases h
    exact .of_frame (sameBut_hostReturns _ s) rfl
  | wrCtrl => cases h; exact .of_frame (sameBut_debugEn s _) rfl
  | wrCmdSrst | evSrst => cases h; exact .of_frame (sameBut_requestSoftReset s) rfl
  | evPor => exact absurd rfl hpor
  | evDoneLcd =>
    cases h
    split
    · exact (effect_emit rfl).mono (by simp [writes])
    · exact effect_takeCompletion s
  | evDonePb | delay => cases h; exact effect_emit rfl
  | checksum | valid => cases h; exact .of_frame (sameBut_opResult s _) rfl
  | copy src dst => cases h; exact .of_frame (sameBut_copyBuf s src dst) (State.copyBuf_trace s src dst)
  | probe p =>
    cases h
    exact effect_probeOp s p (by simp [writes]) fun b t =>
      .of_frame ((sameBut_opResult t _).mono (by simp [writes])) rfl
  | burstSync => cases h; exact effect_burstSyncOp s (by simp [writes]) (.refl _ _)
  | burstStart =>
    cases h
    split
    · exact .refl _ _ s
    · exact effect_burstStartOp s (by simp [writes]) (by simp [writes])
  | pacedByte i =>
    change execPacedByte i s = _ at h
    unfold execPacedByte at h
    split at h
    · cases h; exact effect_pacedByteOp s _ (by simp [writes]) (.refl _ _)
    · cases h
  | hookApply d => cases h; exact ⟨sameBut_hookApplyOp d s, _, hookApply_trace d s, by simp [Event.isXfer]⟩
  | debugHook =>
    cases h
    split
    · exact .of_frame (sameBut_debugHookOp _ s) (debugHookOp_trace _ s)
    · exact .refl _ _ s
  | pbLand i => exact effect_pbLand h
  | stepAwaitinglcd | stepAwaitingpb | stepHalt | stepHaltD | stepHaltEF | stepHoldPair | wrCmdNop | wrRo23 | wrRo45
  | wrReserved67 | wrReserved8F => cases h; exact .refl _ _ s

end Sys2Proof.Machine
end

section
/-! PROOFS. What every step does (10 R32, R37; 30 R59, R60; 60 R126 to R128), read off the effects of the rows. -/

namespace Sys2Proof.Machine

/-! The rows of the three interfaces that a fault does not close -/

/-- An event is a power-on reset, or a row that makes no transaction and enters no fault. -/
theorem decodeEvent_cases (c : BitVec 2) : (c = 0b00#2 ∧ decodeEvent c = .evPor) ∨
    (decodeEvent c ≠ .evPor ∧ calls (decodeEvent c) = 0 ∧ .faulted ∉ writes (decodeEvent c) ∧
      .faultCause ∉ writes (decodeEvent c)) := by
  revert c
  decide

theorem decodeHost_ne_evPor (w : BitVec 13) : decodeHost w ≠ .evPor := by
  unfold decodeHost decodeWrite decodeRead
  split_ifs <;> exact Instr.noConfusion

theorem decodeState_ne_evPor (w : BitVec 7) : decodeState w ≠ .evPor := by
  revert w
  decide

theorem decodeInternal_ne_evPor {w : BitVec 12} {i : Instr} (h : decodeInternal w = .ok i) : i ≠ .evPor := by
  rintro rfl
  cases (encode_decodeInternal h).2

/-- A step but a power-on reset is a hold, a soft reset, a RULESET change, or a row. -/
theorem step_cases {s t : State} {x : Stimulus} {e : Env} (h : step s = .next t)
    (hx : nextStimulus s.par.block s.env = (x, e)) :
    (x = .move (.event 0b00#2) ∧ t = powerOn (s.withEnv e)) ∨ t = s.withEnv e ∨ t = applySoftReset (s.withEnv e) ∨
    (∃ r, t = { s.withEnv e with ruleset := r }) ∨ ∃ i, i ≠ .evPor ∧ exec i (s.withEnv e) = .next t := by
  apply step_elim h x e hx
  case held => exact fun _ => .inr (.inl rfl)
  case soft => exact fun _ _ _ => .inr (.inr (.inl rfl))
  case ruleset => exact fun r _ => .inr (.inr (.inr (.inl ⟨r, rfl⟩)))
  case row => exact fun _ _ _ hi => .inr (.inr (.inr (.inr ⟨_, decodeState_ne_evPor _, hi⟩)))
  case port => exact fun _ _ hi => .inr (.inr (.inr (.inr ⟨_, Instr.noConfusion, hi⟩)))
  case host => exact fun _ _ hi => .inr (.inr (.inr (.inr ⟨_, decodeHost_ne_evPor _, hi⟩)))
  case datapath => exact fun _ _ _ _ hw hi => .inr (.inr (.inr (.inr ⟨_, decodeInternal_ne_evPor hw, hi⟩)))
  case event =>
    intro c hc hi
    rcases decodeEvent_cases c with ⟨rfl, hpor⟩ | ⟨hne, -⟩
    · rw [hpor] at hi
      cases hi
      exact .inl ⟨hc, rfl⟩
    · exact .inr (.inr (.inr (.inr ⟨_, hne, hi⟩)))

/-! The trace (10 R37) -/

/-- Settles O10: a power-on reset clears the trace; a hold, a soft reset and a RULESET change append no transaction, and
a row as many as it has calls. -/
theorem stepAppendsAtMostOneTransaction : Obligations.StepAppendsAtMostOneTransaction := by
  intro s t h
  obtain ⟨x, e, hx⟩ : ∃ x e, nextStimulus s.par.block s.env = (x, e) := ⟨_, _, rfl⟩
  rw [hx]
  rcases step_cases h hx with ⟨hpor, rfl⟩ | rfl | rfl | ⟨r, rfl⟩ | ⟨i, hi, hexec⟩
  · exact .inr ⟨hpor, rfl⟩
  · exact .inl ⟨[], by simp, by simp⟩
  · exact .inl ⟨[.srst], rfl, List.length_filter_le _ _⟩
  · exact .inl ⟨[], by simp, by simp⟩
  · obtain ⟨es, hes, hcalls⟩ := (exec_effect hexec hi).trace
    exact .inl ⟨es, hes, hcalls.trans (calls_le_one i)⟩

/-! The error counters (10 R32) -/

theorem eq_of_errLcd_mem_writes {i : Instr} (h : .errLcd ∈ writes i) : i = .stepLcdreceived ∨ i = .evPor := by
  cases i with
  | stepLcdreceived => exact .inl rfl
  | evPor => exact .inr rfl
  | _ => exact absurd h (by simp [writes, xferFields])

theorem eq_of_errPb_mem_writes {i : Instr} (h : .errPb ∈ writes i) : i = .stepPbreceived ∨ i = .evPor := by
  cases i with
  | stepPbreceived => exact .inl rfl
  | evPor => exact .inr rfl
  | _ => exact absurd h (by simp [writes, xferFields])

/-- Only LCDReceived counts LCD frames, and only an invalid one (43 R107). -/
theorem exec_errLcd {i : Instr} {s t : State} (h : exec i s = .next t) (hpor : i ≠ .evPor) :
    t.errLcd = s.errLcd ∨ t.errLcd.toNat = (s.errLcd.toNat + 1) % 256 := by
  by_cases hw : .errLcd ∈ writes i
  · obtain rfl := (eq_of_errLcd_mem_writes hw).resolve_right hpor
    obtain ⟨hvalid, hinvalid⟩ := lcdReceivedForwardsOrCounts s
    cases hf : validFrame s.par .lcd (s.readBuf .lcdRx) with
    | true =>
      obtain ⟨u, hu, -, -, -, -, -, -, hframe⟩ := hvalid hf
      cases hu.symm.trans h
      exact .inl (hframe .errLcd (by simp))
    | false =>
      obtain ⟨u, hu, hcount, -⟩ := hinvalid hf
      cases hu.symm.trans h
      exact .inr hcount
  · exact .inl ((exec_effect h hpor).frame .errLcd hw)

/-- Only PBReceived counts PB frames, and only an invalid one (43 R111). -/
theorem exec_errPb {i : Instr} {s t : State} (h : exec i s = .next t) (hpor : i ≠ .evPor) :
    t.errPb = s.errPb ∨ t.errPb.toNat = (s.errPb.toNat + 1) % 256 := by
  by_cases hw : .errPb ∈ writes i
  · obtain rfl := (eq_of_errPb_mem_writes hw).resolve_right hpor
    obtain ⟨hvalid, hinvalid⟩ := pbReceivedForwardsOrCounts s
    cases hf : validFrame s.par .pb (s.readBuf .pbRx) with
    | true =>
      obtain ⟨u, hu, -, -, -, -, -, hframe⟩ := hvalid hf
      cases hu.symm.trans h
      exact .inl (hframe .errPb (by simp))
    | false =>
      obtain ⟨u, hu, hcount, -⟩ := hinvalid hf
      cases hu.symm.trans h
      exact .inr hcount
  · exact .inl ((exec_effect h hpor).frame .errPb hw)

/-- Settles O16: a power-on reset clears the counters, a row leaves each or counts, and nothing else writes them. -/
theorem countersOnlyCountUp : Obligations.CountersOnlyCountUp := by
  intro s t h
  obtain ⟨x, e, hx⟩ : ∃ x e, nextStimulus s.par.block s.env = (x, e) := ⟨_, _, rfl⟩
  rw [hx]
  rcases step_cases h hx with ⟨hpor, rfl⟩ | rfl | rfl | ⟨r, rfl⟩ | ⟨i, hi, hexec⟩
  · exact .inr ⟨hpor, rfl, rfl⟩
  · exact .inl ⟨.inl rfl, .inl rfl⟩
  · exact .inl ⟨.inl rfl, .inl rfl⟩
  · exact .inl ⟨.inl rfl, .inl rfl⟩
  · exact .inl ⟨exec_errLcd (s := s.withEnv e) hexec hi, exec_errPb (s := s.withEnv e) hexec hi⟩

/-! The transport fault (60 R126 to R128) -/

/-- The fault stays with its cause, and no transaction is traced. -/
def StaysFaulted (s t : State) : Prop :=
  t.faulted = true ∧ t.faultCause = s.faultCause ∧ ∃ es, t.trace = s.trace ++ es ∧ es.filter Event.isXfer = []

theorem StaysFaulted.of_trace_eq {s t : State} (hf : t.faulted = true) (hc : t.faultCause = s.faultCause)
    (ht : t.trace = s.trace) : StaysFaulted s t := ⟨hf, hc, [], by simp [ht], rfl⟩

theorem Effect.staysFaulted {w : List Field} {s t : State} (h : Effect w 0 s t) (hs : s.faulted = true)
    (hfaulted : .faulted ∉ w) (hcause : .faultCause ∉ w) : StaysFaulted s t := by
  obtain ⟨es, hes, hcalls⟩ := h.trace
  exact ⟨(h.frame .faulted hfaulted).trans hs, h.frame .faultCause hcause, es, hes,
    List.eq_nil_of_length_eq_zero (Nat.le_zero.mp hcalls)⟩

/-- Settles O15: a fault holds the controller and the test bench; the PB port, the host and the events but POR make no
transaction and leave the fault. -/
theorem onlyPowerOnLeavesAFault : Obligations.OnlyPowerOnLeavesAFault := by
  intro s t hf h
  obtain ⟨x, e, hx⟩ : ∃ x e, nextStimulus s.par.block s.env = (x, e) := ⟨_, _, rfl⟩
  rw [hx]
  have hu : (s.withEnv e).faulted = true := hf
  apply step_elim h x e hx
  case held => exact fun _ => .inl (StaysFaulted.of_trace_eq hf rfl rfl)
  case ruleset => exact fun _ _ => .inl (StaysFaulted.of_trace_eq hf rfl rfl)
  case port =>
    intro k _ hi
    exact .inl ((effect_pbLand hi).staysFaulted hu (by simp [writes]) (by simp [writes]))
  case host =>
    intro w _ hi
    rcases exec_decodeHost_cases w (s.withEnv e) with ⟨b, ht⟩ | ⟨d, ht⟩ | ht | ht
    all_goals
      cases ht.symm.trans hi
      exact .inl (StaysFaulted.of_trace_eq hf rfl rfl)
  case event =>
    intro c hc hi
    rcases decodeEvent_cases c with ⟨rfl, hpor⟩ | ⟨hne, hcalls, hfaulted, hcause⟩
    · rw [hpor] at hi
      cases hi
      exact .inr ⟨hc, rfl, rfl⟩
    · have heffect := exec_effect hi hne
      rw [hcalls] at heffect
      exact .inl (heffect.staysFaulted hu hfaulted hcause)
  -- the controller and the test bench run no row under a fault
  case soft => exact fun _ hclear => absurd hf (by simp [hclear])
  case row => exact fun _ hclear => absurd hf (by simp [hclear])
  case datapath => exact fun _ _ _ hclear => absurd hf (by simp [hclear])

end Sys2Proof.Machine
end

section
/-! PROOFS. The controller's transition graph (43_bridge_fsm.md): the pair (STATE, OP) that selects each row, and the
pairs the row may leave behind. No pair in it is of an unused code (30 R59, R60). -/

namespace Sys2Proof.Machine

/-- The rows that do something, each with the pair that selects it (30 R71). -/
inductive Selected (s : State) : Instr → Prop
  | init (hst : s.stateReg = St.init) (hop : s.op = Op.none) : Selected s .stepInit
  | syncpbProbe (hst : s.stateReg = St.syncingPb) (hop : s.op = Op.syncpbProbe) : Selected s .stepSyncpbProbe
  | syncpbDelay (hst : s.stateReg = St.syncingPb) (hop : s.op = Op.syncpbDelay) : Selected s .stepSyncpbDelay
  | syncedpb (hst : s.stateReg = St.syncedPb) (hop : s.op = Op.none) : Selected s .stepSyncedpb
  | synclcdProbe (hst : s.stateReg = St.syncingLcd) (hop : s.op = Op.synclcdProbe) : Selected s .stepSynclcdProbe
  | synclcdTail (hst : s.stateReg = St.syncingLcd) (hop : s.op = Op.synclcdTail) : Selected s .stepSynclcdTail
  | syncedlcd (hst : s.stateReg = St.syncedLcd) (hop : s.op = Op.none) : Selected s .stepSyncedlcd
  | idle (hst : s.stateReg = St.idle) (hop : s.op = Op.none) : Selected s .stepIdle
  | requestlcd (hst : s.stateReg = St.requestLcd) (hop : s.op = Op.none) : Selected s .stepRequestlcd
  | lcdreceived (hst : s.stateReg = St.lcdReceived) (hop : s.op = Op.none) : Selected s .stepLcdreceived
  | requestpbXfer (hst : s.stateReg = St.requestPb) (hop : s.op = Op.pacedXfer) : Selected s .stepRequestpbXfer
  | requestpbDelay (hst : s.stateReg = St.requestPb) (hop : s.op = Op.pacedDelay) : Selected s .stepRequestpbDelay
  | pbreceived (hst : s.stateReg = St.pbReceived) (hop : s.op = Op.none) : Selected s .stepPbreceived

/-- The same as a table, (STATE, OP, row). -/
def selectedRows : List (BitVec 4 × BitVec 3 × Instr) :=
  [(St.init, Op.none, .stepInit), (St.syncingPb, Op.syncpbProbe, .stepSyncpbProbe),
   (St.syncingPb, Op.syncpbDelay, .stepSyncpbDelay), (St.syncedPb, Op.none, .stepSyncedpb),
   (St.syncingLcd, Op.synclcdProbe, .stepSynclcdProbe), (St.syncingLcd, Op.synclcdTail, .stepSynclcdTail),
   (St.syncedLcd, Op.none, .stepSyncedlcd), (St.idle, Op.none, .stepIdle), (St.requestLcd, Op.none, .stepRequestlcd),
   (St.lcdReceived, Op.none, .stepLcdreceived), (St.requestPb, Op.pacedXfer, .stepRequestpbXfer),
   (St.requestPb, Op.pacedDelay, .stepRequestpbDelay), (St.pbReceived, Op.none, .stepPbreceived)]

theorem decodeStep_mem_selectedRows (op : BitVec 3) (st : BitVec 4) :
    isHoldingRow (decodeStep op st) = true ∨ (st, op, decodeStep op st) ∈ selectedRows := by
  revert op st
  decide

theorem Selected.of_mem {s : State} {i : Instr} (h : (s.stateReg, s.op, i) ∈ selectedRows) : Selected s i := by
  simp only [selectedRows, List.mem_cons, Prod.mk.injEq, List.not_mem_nil, or_false] at h
  rcases h with ⟨hst, hop, rfl⟩ | ⟨hst, hop, rfl⟩ | ⟨hst, hop, rfl⟩ | ⟨hst, hop, rfl⟩ | ⟨hst, hop, rfl⟩ |
    ⟨hst, hop, rfl⟩ | ⟨hst, hop, rfl⟩ | ⟨hst, hop, rfl⟩ | ⟨hst, hop, rfl⟩ | ⟨hst, hop, rfl⟩ | ⟨hst, hop, rfl⟩ |
    ⟨hst, hop, rfl⟩ | ⟨hst, hop, rfl⟩
  all_goals constructor <;> assumption

/-- A selector that selects no holding row selects one of these. -/
theorem selected_decodeState (s : State) :
    isHoldingRow (decodeState s.selector) = true ∨ Selected s (decodeState s.selector) := by
  rw [State.selector, decodeState_selector]
  exact (decodeStep_mem_selectedRows s.op s.stateReg).imp_right .of_mem

/-- The pairs that a row may leave behind. -/
def successors : Instr → List (BitVec 4 × BitVec 3)
  | .stepInit | .stepSyncpbDelay => [(St.syncingPb, Op.syncpbProbe)]
  | .stepSyncpbProbe => [(St.syncedPb, Op.none), (St.syncingPb, Op.syncpbDelay)]
  | .stepSyncedpb => [(St.syncingLcd, Op.synclcdProbe)]
  | .stepSynclcdProbe => [(St.syncingLcd, Op.synclcdTail)]
  | .stepSynclcdTail => [(St.syncedLcd, Op.none), (St.syncingLcd, Op.synclcdProbe)]
  | .stepSyncedlcd | .stepIdle => [(St.requestLcd, Op.none)]
  | .stepRequestlcd => [(St.awaitingLcd, Op.none)]
  | .stepLcdreceived | .stepRequestpbDelay => [(St.requestPb, Op.pacedXfer)]
  | .stepRequestpbXfer => [(St.pbReceived, Op.none), (St.requestPb, Op.pacedDelay)]
  | .stepPbreceived => [(St.idle, Op.none)]
  | _ => []

/-- The pair stays, as it does when the row holds or faults, or it becomes a successor. -/
def Moves (i : Instr) (s t : State) : Prop :=
  (t.stateReg = s.stateReg ∧ t.op = s.op) ∨ (t.stateReg, t.op) ∈ successors i

theorem Moves.stays {i : Instr} {s t : State} (hst : t.stateReg = s.stateReg) (hop : t.op = s.op) : Moves i s t :=
  .inl ⟨hst, hop⟩

theorem Moves.to {i : Instr} {s t : State} (st : BitVec 4) (op : BitVec 3) (hst : t.stateReg = st) (hop : t.op = op)
    (hmem : (st, op) ∈ successors i := by decide) : Moves i s t := .inr (by rw [hst, hop]; exact hmem)

/-- Every row leaves the pair it was selected by, or one of its successors. -/
theorem Selected.moves {s t : State} {i : Instr} (hsel : Selected s i) (h : exec i s = .next t) : Moves i s t := by
  cases hsel with
  | init => cases h; exact .to St.syncingPb Op.syncpbProbe rfl rfl
  | syncpbProbe hst hop =>
    cases h
    refine probeOp_elim (P := Moves _ s) .pb s _ (fun _ => .stays rfl rfl) (fun _ => .stays rfl rfl) (by simp) ?pb
    case pb =>
      intro _ e b
      obtain ⟨synced, st, op, ht, hdecision⟩ :=
        syncPbDecide_eq b (landPb 0 b ((s.withEnv e).emit (.xfer .pb .probe [0x00#8] .ok (some [b]))))
      rw [ht]
      split_ifs at hdecision
      · obtain ⟨-, hop', hst'⟩ := hdecision
        exact .to St.syncedPb Op.none hst' hop'
      · obtain ⟨-, hop', hst'⟩ := hdecision
        exact .to St.syncedPb Op.none hst' hop'
      · obtain ⟨-, hop', hst'⟩ := hdecision
        exact .to St.syncingPb Op.syncpbDelay (hst'.trans (by simp [hst])) hop'
  | syncpbDelay hst hop => cases h; exact .to St.syncingPb Op.syncpbProbe hst rfl
  | syncedpb => cases h; exact .to St.syncingLcd Op.synclcdProbe rfl rfl
  | synclcdProbe hst hop =>
    cases h
    refine probeOp_elim (P := Moves _ s) .lcd s _ (fun _ => .stays rfl rfl) (fun _ => .stays rfl rfl) ?lcd (by simp)
    case lcd =>
      intro _ _ e b
      split
      · exact .to St.syncingLcd Op.synclcdTail hst rfl
      · exact .stays rfl rfl
  | synclcdTail hst hop =>
    cases h
    refine burstSyncOp_elim (P := Moves _ s) s _ (fun _ => .stays rfl rfl) (fun _ => .stays rfl rfl) ?done
    case done =>
      intro _ e rx _
      unfold syncLcdDecide
      split
      · exact .to St.syncedLcd Op.none rfl rfl
      · exact .to St.syncingLcd Op.synclcdProbe (by simp [hst]) rfl
  | syncedlcd hst hop | idle hst hop => cases h; exact .to St.requestLcd Op.none rfl hop
  | requestlcd hst hop =>
    cases h
    split
    · exact .stays rfl rfl
    · exact burstStartOp_elim (P := Moves _ s) _ _ (fun _ => .to St.awaitingLcd Op.none rfl hop)
        (fun _ => .to St.awaitingLcd Op.none rfl hop)
  | lcdreceived => cases h; exact .to St.requestPb Op.pacedXfer rfl rfl
  | requestpbXfer hst hop =>
    change execStepRequestpbXfer s = _ at h
    unfold execStepRequestpbXfer at h
    split at h
    · cases h
      refine pacedByteOp_elim (P := Moves _ s) _ s _ (fun _ => .stays rfl rfl) fun e b => ?_
      split
      · exact .to St.pbReceived Op.none rfl rfl
      · exact .to St.requestPb Op.pacedDelay (by simp [hst]) rfl
    · cases h
  | requestpbDelay hst hop => cases h; exact .to St.requestPb Op.pacedXfer hst rfl
  | pbreceived hst hop =>
    have hframe := (effect_stepPbreceived h).frame .op (by simp [writes])
    cases h
    exact .to St.idle Op.none rfl (hframe.trans hop)

/-! What moves STATE besides the controller's rows -/

/-- The registers of the controller (10 R23 to R26). -/
def controllerFields : List Field := [.stateReg, .op, .idx, .attempt]

/-- A datapath row run on its own writes none of them. -/
theorem decodeInternal_controllerFields {w : BitVec 12} {i : Instr} (h : decodeInternal w = .ok i) :
    ∀ f ∈ controllerFields, f ∉ writes i := by
  have hencode := (encode_decodeInternal h).2
  cases i with
  | checksum | valid | copy | probe | burstSync | burstStart | pacedByte | delay | hookApply | debugHook | pbLand =>
    simp [controllerFields, writes, xferFields]
  -- a row of another format is not encoded as a datapath word
  | _ => cases hencode

theorem takeCompletion_stateReg (s : State) :
    (takeCompletion s).stateReg = if s.stateReg = St.awaitingLcd then St.lcdReceived else s.stateReg := by
  refine takeCompletion_elim (P := fun t => t.stateReg = _) s (fun e => ?spurious) (fun _ e rx _ => ?ended)
  case spurious => exact completionGuard_stateReg _
  case ended => simp [completionGuard_stateReg]

/-- An event leaves STATE, ends the wait in AwaitingLCD, or is a power-on reset (43 R106, 70 R138). -/
theorem decodeEvent_moves {c : BitVec 2} {s t : State} (h : exec (decodeEvent c) s = .next t) :
    t.stateReg = s.stateReg ∨ (s.stateReg = St.awaitingLcd ∧ t.stateReg = St.lcdReceived) ∨ t.stateReg = St.init := by
  by_cases hs : s.stateReg = St.awaitingLcd
  · unfold decodeEvent at h
    split_ifs at h
    · cases h; exact .inr (.inr rfl)
    · cases h; exact .inl rfl
    · cases h
      split
      · exact .inl rfl
      · exact .inr (.inl ⟨hs, by simp [takeCompletion_stateReg, hs]⟩)
    · cases h; exact .inl rfl
  · exact (decodeEvent_stateReg hs h).imp_right fun hpor => .inr hpor.2

/-! The unused codes (30 R59, R60) -/

theorem successors_in_use {i : Instr} {p : BitVec 4 × BitVec 3} (hp : p ∈ successors i) : unusedCode p.1 = false := by
  have hall : (successors i).all (fun p => !unusedCode p.1) = true := by cases i <;> rfl
  simpa using List.all_eq_true.mp hall p hp

/-- Settles O14: the controller goes to successors, an event to LCDReceived or Init, a soft reset to Init. -/
theorem unusedCodesAreNeverEntered : Obligations.UnusedCodesAreNeverEntered := by
  intro s t h hs
  obtain ⟨x, e, hx⟩ : ∃ x e, nextStimulus s.par.block s.env = (x, e) := ⟨_, _, rfl⟩
  apply step_elim h x e hx
  case held => exact fun _ => hs
  case soft => exact fun _ _ _ => rfl
  case ruleset => exact fun _ _ => hs
  case port => exact fun _ _ hi => (pbLand_stateReg hi).symm ▸ hs
  case host => exact fun _ _ hi => (decodeHost_stateReg hi).symm ▸ hs
  case row =>
    intro _ _ _ hi
    rcases selected_decodeState (s.withEnv e) with hhold | hsel
    · cases (exec_of_isHoldingRow hhold _).symm.trans hi
      exact hs
    · rcases hsel.moves hi with ⟨hst, -⟩ | hmem
      · exact hst.symm ▸ hs
      · exact successors_in_use hmem
  case event =>
    intro _ _ hi
    rcases decodeEvent_moves hi with hst | ⟨-, hst⟩ | hst
    · exact hst.symm ▸ hs
    · rw [hst]; decide
    · rw [hst]; decide
  case datapath =>
    intro w i _ _ hw hi
    have hst := (exec_effect hi (decodeInternal_ne_evPor hw)).frame .stateReg
      (decodeInternal_controllerFields hw _ (by simp [controllerFields]))
    exact hst.symm ▸ hs

end Sys2Proof.Machine
end

section
/-! PROOFS. The invariant of reachable states (10_state.md, 43 R99) in two halves: what the block stores, which every row
keeps from every state, and what the controller's registers hold, which a row keeps where its pair selects it. -/

namespace Sys2Proof.Machine

/-- The half about memory (20 R40), the pending slots (10 R35), the snapshot (10 R34) and FAULT_CAUSE (30 R67). -/
structure State.DataInv (s : State) : Prop where
  memory : Memory.wf s.par s.mem = true
  pending : cellsRising s.pbPending = true ∧ ∀ c ∈ s.pbPending, c.1 < s.par.n
  pendingExact : s.par.race = .exact → s.pbPending = []
  inflight : s.lcdInflightTx.length = s.par.n
  cause : if s.faulted then s.faultCause ∈ faultCodes else s.faultCause = 0x00#8

/-- The half about STATE, OP, IDX and ATTEMPT (43 R99, 10 R25, R26). -/
structure State.ControlInv (s : State) : Prop where
  pair : allowedPair s.stateReg s.op = true
  index : s.idx.toNat < s.par.n
  indexDelay : s.op = Op.pacedDelay → s.idx.toNat + 1 < s.par.n
  attempts : s.attempt.toNat ≤ s.par.maxAttempts
  attemptsScan : s.stateReg = St.syncingPb → s.attempt.toNat < s.par.maxAttempts

theorem State.Inv.data {s : State} (h : s.Inv) : s.DataInv :=
  ⟨h.memory, h.pending, h.pendingExact, h.inflight, h.cause⟩

theorem State.Inv.control {s : State} (h : s.Inv) : s.ControlInv :=
  ⟨h.pair, h.index, h.indexDelay, h.attempts, h.attemptsScan⟩

theorem State.DataInv.inv {s : State} (hd : s.DataInv) (hc : s.ControlInv) : s.Inv :=
  ⟨hd.memory, hd.pending, hd.pendingExact, hd.inflight, hc.pair, hc.index, hc.indexDelay, hc.attempts, hc.attemptsScan,
    hd.cause⟩

/-! What the block stores -/

section
variable {s t : State}

/-- Memory written in canonical form, and nothing else of the half. -/
theorem State.DataInv.withMemory (h : s.DataInv) (hp : t.par = s.par) (hm : Memory.wf s.par t.mem = true)
    (hq : t.pbPending = s.pbPending) (hi : t.lcdInflightTx = s.lcdInflightTx) (hf : t.faulted = s.faulted)
    (hc : t.faultCause = s.faultCause) : t.DataInv := by
  refine ⟨?_, ?_, ?_, ?_, ?_⟩
  · rw [hp]; exact hm
  · rw [hp, hq]; exact h.pending
  · rw [hp, hq]; exact h.pendingExact
  · rw [hp, hi]; exact h.inflight
  · rw [hf, hc]; exact h.cause

/-- Nothing of the half written. -/
theorem State.DataInv.congr (h : s.DataInv) (hp : t.par = s.par) (hm : t.mem = s.mem)
    (hq : t.pbPending = s.pbPending) (hi : t.lcdInflightTx = s.lcdInflightTx) (hf : t.faulted = s.faulted)
    (hc : t.faultCause = s.faultCause) : t.DataInv := h.withMemory hp (hm ▸ h.memory) hq hi hf hc

theorem State.DataInv.withEnv (h : s.DataInv) (e : Env) : (s.withEnv e).DataInv := h.congr rfl rfl rfl rfl rfl rfl

theorem State.DataInv.emit (h : s.DataInv) (ev : Event) : (s.emit ev).DataInv := h.congr rfl rfl rfl rfl rfl rfl

theorem State.DataInv.goto (h : s.DataInv) (st : BitVec 4) (o : BitVec 3) : (s.goto st o).DataInv :=
  h.congr rfl rfl rfl rfl rfl rfl

theorem State.DataInv.raise (h : s.DataInv) {code : Byte} (hcode : code ∈ faultCodes) :
    (raiseTransportFault code s).DataInv := ⟨h.memory, h.pending, h.pendingExact, h.inflight, hcode⟩

theorem State.DataInv.writeBytes (h : s.DataInv) {a : Nat} {vs : List Byte} (ha : a + vs.length ≤ memSize s.par) :
    (s.writeBytes a vs).DataInv :=
  h.withMemory (State.writeBytes_par s a vs) (writeBytes_wf s a vs ha h.memory) (State.writeBytes_pbPending s a vs)
    (State.writeBytes_lcdInflightTx s a vs) (State.writeBytes_faulted s a vs) (State.writeBytes_faultCause s a vs)

theorem State.DataInv.writeBuf (h : s.DataInv) {b : Buf} {vs : List Byte} (hv : vs.length = s.par.n) :
    (s.writeBuf b vs).DataInv := h.writeBytes (by rw [hv]; exact base_le s.par b)

theorem State.DataInv.copyBuf (h : s.DataInv) (src dst : Buf) : (s.copyBuf src dst).DataInv :=
  h.writeBuf (readBuf_length s src)

theorem State.DataInv.hookApply (h : s.DataInv) (d : Dir) : (hookApplyOp d s).DataInv :=
  (h.writeBuf (hook_length _ _ _ _)).emit _

theorem State.DataInv.debugHook (h : s.DataInv) (f : List Byte) : (debugHookOp f s).DataInv :=
  h.withMemory (debugHookOp_par f s) (debugHook_wf f s h.memory) (debugHookOp_pbPending f s)
    (debugHookOp_lcdInflightTx f s) (debugHookOp_faulted f s) (debugHookOp_faultCause f s)

theorem State.DataInv.withPending (h : s.DataInv) {c : List Host.Cell} (hrising : cellsRising c = true)
    (hlt : ∀ x ∈ c, x.1 < s.par.n) (hrace : s.par.race = .exact → c = []) : (s.withPending c).DataInv :=
  ⟨h.memory, ⟨hrising, hlt⟩, hrace, h.inflight, h.cause⟩

theorem mem_of_cellsLookup {cs : List Host.Cell} {a : Nat} {v : Byte} (h : cellsLookup cs a = some v) :
    (a, v) ∈ cs := by
  induction cs with
  | nil => cases h
  | cons c cs ih =>
    obtain ⟨k, w⟩ := c
    simp only [cellsLookup] at h
    split at h
    case isTrue hk => cases h; exact hk ▸ List.mem_cons_self
    case isFalse => exact List.mem_cons_of_mem _ (ih h)

/-- A slot that holds a byte is one of `0..N-1`. -/
theorem State.DataInv.slot_lt (h : s.DataInv) {i : Nat} {p : Byte} (hs : s.slot i = some p) : i < s.par.n :=
  h.pending.2 _ (mem_of_cellsLookup hs)

theorem pbRx_index_le {p : Params} {i : Nat} (hi : i < p.n) (v : Byte) :
    Buf.base p .pbRx + i + [v].length ≤ memSize p := by
  simp only [Buf.base, memSize, List.length_singleton]
  omega

theorem State.DataInv.landPending (h : s.DataInv) {i : Nat} (hi : i < s.par.n) (p : Byte) :
    (landPending i p s).DataInv := (h.writeBytes (pbRx_index_le hi p)).emit _

/-- A byte that waits in its slot keeps the slots rising and below `N`. -/
theorem State.DataInv.waits (h : s.DataInv) {i : Nat} (hi : i < s.par.n) (hrace : s.par.race = .anyPending) (b : Byte) :
    (s.withPending (cellsInsert i b s.pbPending)).DataInv := by
  refine h.withPending (cellsRising_insert _ i b h.pending.1) ?_ (by simp [hrace])
  have hall := cellsInsert_all (fun c => decide (c.1 < s.par.n)) s.pbPending i b (by simpa using hi)
    (by simpa using h.pending.2)
  simpa using hall

theorem State.DataInv.landPb (h : s.DataInv) {i : Nat} (hi : i < s.par.n) (b : Byte) : (landPb i b s).DataInv := by
  unfold Machine.landPb
  split
  case h_1 => exact h.writeBytes (pbRx_index_le hi b)
  case h_2 hrace =>
    split
    case h_1 p _ => exact (h.landPending hi p).waits hi hrace b
    case h_2 => exact h.waits hi hrace b

/-- A slot is emptied. -/
theorem State.DataInv.erase (h : s.DataInv) (i : Nat) : (s.withPending (cellsErase i s.pbPending)).DataInv :=
  h.withPending (cellsRising_erase _ i h.pending.1) (fun c hc => h.pending.2 c (List.mem_of_mem_filter hc))
    fun hrace => by rw [h.pendingExact hrace]; rfl

theorem State.DataInv.completionGuard (h : s.DataInv) : (completionGuard s).DataInv :=
  h.congr (completionGuard_par s) (completionGuard_mem s) (completionGuard_pbPending s)
    (completionGuard_lcdInflightTx s) (completionGuard_faulted s) (completionGuard_faultCause s)

theorem State.DataInv.powerOn (s : State) : (powerOn s).DataInv :=
  ⟨rfl, ⟨rfl, by simp⟩, fun _ => rfl, List.length_replicate, rfl⟩

/-! The transactions, with the rest of the row after them -/

theorem faultCode_probe_mem (p : Port) : faultCode p .probe ∈ faultCodes := by
  cases p <;> decide

theorem dataInv_probeOp (h : s.DataInv) (p : Port) {k : Byte → State → State}
    (hk : ∀ b (t : State), t.DataInv → (k b t).DataInv) : ((probeOp p s).andThen k).DataInv := by
  have hn := s.par.n_ge
  refine probeOp_elim (P := State.DataInv) p s k h.withEnv
    (fun e => ((h.withEnv e).emit _).raise (faultCode_probe_mem p)) ?lcd ?pb
  case lcd =>
    intro _ _ e b
    refine hk b _ (((h.withEnv e).emit _).writeBytes (vs := [b]) ?_)
    simp only [State.base, Buf.base, memSize, State.emit_par, State.withEnv_par, List.length_singleton]
    omega
  case pb => intro _ e b; exact hk b _ (((h.withEnv e).emit _).landPb (Nat.lt_of_lt_of_le Nat.zero_lt_two hn) b)

theorem dataInv_burstSyncOp (h : s.DataInv) {k : Unit → State → State} (hk : ∀ t : State, t.DataInv → (k () t).DataInv) :
    ((burstSyncOp s).andThen k).DataInv := by
  have hn := s.par.n_ge
  refine burstSyncOp_elim (P := State.DataInv) s k h.withEnv
    (fun e => ((h.withEnv e).emit _).raise (by decide)) ?done
  case done =>
    intro _ e rx hrx
    refine hk _ (((h.withEnv e).emit _).writeBytes ?_)
    simp only [State.base, Buf.base, memSize, State.emit_par, State.withEnv_par, hrx]
    omega

theorem dataInv_burstStartOp (h : s.DataInv) : ((burstStartOp s).andThen fun _ t => t).DataInv := by
  refine burstStartOp_elim (P := State.DataInv) s _
    (fun e => ((h.withEnv e).emit _).raise (by decide)) fun e => ?done
  case done => exact ⟨h.memory, h.pending, h.pendingExact, readBuf_length s .lcdTx, h.cause⟩

theorem dataInv_pacedByteOp (h : s.DataInv) {i : Nat} (hi : i < s.par.n) {k : Unit → State → State}
    (hk : ∀ t : State, t.DataInv → (k () t).DataInv) : ((pacedByteOp i s).andThen k).DataInv :=
  pacedByteOp_elim (P := State.DataInv) i s k (fun e => ((h.withEnv e).emit _).raise (by decide))
    fun e b => hk _ (((h.withEnv e).emit _).landPb hi b)

theorem dataInv_takeCompletion (h : s.DataInv) : (takeCompletion s).DataInv :=
  takeCompletion_elim (P := State.DataInv) s (fun e => (h.withEnv e).completionGuard) fun _ e rx hrx =>
    State.DataInv.completionGuard
      (((h.withEnv e).writeBuf (b := .lcdRx) hrx).congr (t := landBurst rx (s.withEnv e)) rfl rfl rfl rfl rfl rfl)

theorem dataInv_syncPbDecide (h : s.DataInv) (b : Byte) : (syncPbDecide b s).DataInv := by
  obtain ⟨synced, st, op, ht, -⟩ := syncPbDecide_eq b s
  rw [ht]
  exact h.congr rfl rfl rfl rfl rfl rfl

theorem dataInv_syncLcdDecide (h : s.DataInv) : (syncLcdDecide s).DataInv := by
  unfold syncLcdDecide
  split
  · exact h.goto _ _
  · exact (h.emit _).goto _ _

theorem dataInv_forwardLcdFrame (h : s.DataInv) (f : List Byte) : (forwardLcdFrame f s).DataInv := by
  unfold forwardLcdFrame
  split
  · exact ((h.copyBuf _ _).hookApply _).debugHook f
  · exact (h.copyBuf _ _).hookApply _

/-- Every row keeps what the block stores in range, whatever state it is run in. -/
theorem exec_dataInv {i : Instr} (h : exec i s = .next t) (hs : s.DataInv) : t.DataInv := by
  cases i with
  | stepSyncpbProbe => cases h; exact dataInv_probeOp hs .pb fun b t ht => dataInv_syncPbDecide ht b
  | stepSynclcdProbe =>
    cases h
    refine dataInv_probeOp hs .lcd fun b t ht => ?_
    split
    · exact ht.goto _ _
    · exact ht
  | stepSynclcdTail => cases h; exact dataInv_burstSyncOp hs fun t ht => dataInv_syncLcdDecide ht
  | stepRequestlcd =>
    cases h
    split
    · exact hs
    · exact dataInv_burstStartOp (s := { s with stateReg := St.awaitingLcd }) (hs.congr rfl rfl rfl rfl rfl rfl)
  | stepLcdreceived =>
    cases hf : validFrame s.par .lcd (s.readBuf .lcdRx) with
    | true =>
      cases (exec_stepLcdreceived_of_valid hf).symm.trans h
      exact (dataInv_forwardLcdFrame hs _).congr rfl rfl rfl rfl rfl rfl
    | false =>
      cases (exec_stepLcdreceived_of_invalid hf).symm.trans h
      exact hs.congr rfl rfl rfl rfl rfl rfl
  | stepRequestpbXfer =>
    change execStepRequestpbXfer s = _ at h
    unfold execStepRequestpbXfer at h
    split at h
    case isTrue hi =>
      cases h
      refine dataInv_pacedByteOp hs hi fun t ht => ?_
      split
      · exact ht.goto _ _
      · exact ht.goto _ _
    case isFalse => cases h
  | stepPbreceived =>
    cases hf : validFrame s.par .pb (s.readBuf .pbRx) with
    | true =>
      cases (exec_stepPbreceived_of_valid hf).symm.trans h
      exact ((hs.copyBuf .pbRx .lcdTx).hookApply .pb2lcd).congr rfl rfl rfl rfl rfl rfl
    | false =>
      cases (exec_stepPbreceived_of_invalid hf).symm.trans h
      exact hs.congr rfl rfl rfl rfl rfl rfl
  | evPor => cases h; exact .powerOn s
  | evDoneLcd =>
    cases h
    split
    · exact hs.emit _
    · exact dataInv_takeCompletion hs
  | copy src dst => cases h; exact hs.copyBuf src dst
  | probe p => cases h; exact dataInv_probeOp hs p fun b t ht => ht.congr rfl rfl rfl rfl rfl rfl
  | burstSync => cases h; exact dataInv_burstSyncOp hs fun t ht => ht
  | burstStart =>
    cases h
    split
    · exact hs
    · exact dataInv_burstStartOp hs
  | pacedByte i =>
    change execPacedByte i s = _ at h
    unfold execPacedByte at h
    split at h
    case isTrue hi => cases h; exact dataInv_pacedByteOp hs hi fun t ht => ht
    case isFalse => cases h
  | hookApply d => cases h; exact hs.hookApply d
  | debugHook =>
    cases h
    split
    · exact hs.debugHook _
    · exact hs
  | pbLand i =>
    cases h
    split
    case h_1 p _ hslot => exact (hs.landPending (hs.slot_lt hslot) p).erase i.toNat
    case h_2 => exact hs
  | stepInit | stepSyncpbDelay | stepSyncedpb | stepSyncedlcd | stepIdle | stepRequestpbDelay | evSrst | evDonePb
  | wrCtrl | wrCmdSrst | rdCtrl | rdCmd | rdStatus | rdErrLcd | rdErrPb | rdFaultCause | rdReserved67 | rdReserved8F
  | checksum | valid | delay => cases h; exact hs.congr rfl rfl rfl rfl rfl rfl
  | stepAwaitinglcd | stepAwaitingpb | stepHalt | stepHaltD | stepHaltEF | stepHoldPair | wrCmdNop | wrRo23 | wrRo45
  | wrReserved67 | wrReserved8F => cases h; exact hs

end

/-! What the controller's registers hold -/

section
variable {s t : State}

/-- Where a row leaves the pair (`st`, `op`), what is left to show is about IDX and ATTEMPT. -/
theorem State.ControlInv.of_pair (st : BitVec 4) (op : BitVec 3) (hst : t.stateReg = st) (hop : t.op = op)
    (hidx : t.idx.toNat < t.par.n) (hatt : t.attempt.toNat ≤ t.par.maxAttempts)
    (hdelay : op = Op.pacedDelay → t.idx.toNat + 1 < t.par.n)
    (hscan : st = St.syncingPb → t.attempt.toNat < t.par.maxAttempts) (hpair : allowedPair st op = true := by decide) :
    t.ControlInv :=
  ⟨by rw [hst, hop]; exact hpair, hidx, fun hd => hdelay (hop ▸ hd), hatt, fun hs => hscan (hst ▸ hs)⟩

/-- Init with both registers clear, after either reset (70 R138, R139). -/
theorem State.ControlInv.of_init (hst : t.stateReg = St.init) (hop : t.op = Op.none) (hi : t.idx = 0#8)
    (ha : t.attempt = 0#8) : t.ControlInv :=
  .of_pair St.init Op.none hst hop (by rw [hi]; exact Nat.lt_of_lt_of_le Nat.zero_lt_two t.par.n_ge)
    (by rw [ha]; exact Nat.zero_le _) (fun hd => absurd hd (by decide)) (fun hs => absurd hs (by decide))

/-- The pair moved, IDX and ATTEMPT kept: neither the inter-byte delay nor the scan is begun. -/
theorem State.ControlInv.move (h : s.ControlInv) (hp : t.par = s.par) (hi : t.idx = s.idx) (ha : t.attempt = s.attempt)
    (hpair : allowedPair t.stateReg t.op = true) (hdelay : t.op = Op.pacedDelay → s.op = Op.pacedDelay)
    (hscan : t.stateReg = St.syncingPb → s.stateReg = St.syncingPb) : t.ControlInv := by
  refine ⟨hpair, ?_, fun hd => ?_, ?_, fun hs => ?_⟩
  · rw [hp, hi]; exact h.index
  · rw [hp, hi]; exact h.indexDelay (hdelay hd)
  · rw [hp, ha]; exact h.attempts
  · rw [hp, ha]; exact h.attemptsScan (hscan hs)

theorem State.ControlInv.congr (h : s.ControlInv) (hp : t.par = s.par) (hst : t.stateReg = s.stateReg)
    (hop : t.op = s.op) (hi : t.idx = s.idx) (ha : t.attempt = s.attempt) : t.ControlInv :=
  h.move hp hi ha (by rw [hst, hop]; exact h.pair) (by rw [hop]; exact id) (by rw [hst]; exact id)

/-- A row that writes no register of the controller. -/
theorem exec_controlInv_of_frame {i : Instr} (h : exec i s = .next t) (hpor : i ≠ .evPor)
    (hw : ∀ f ∈ controllerFields, f ∉ writes i) (hs : s.ControlInv) : t.ControlInv := by
  have hframe := (exec_effect h hpor).frame
  exact hs.congr (exec_sameInputs h).1 (hframe .stateReg (hw _ (by simp [controllerFields])))
    (hframe .op (hw _ (by simp [controllerFields]))) (hframe .idx (hw _ (by simp [controllerFields])))
    (hframe .attempt (hw _ (by simp [controllerFields])))

/-- An allowed pair that begins neither the inter-byte delay nor the scan of SyncPB. -/
def passesOn (p : BitVec 4 × BitVec 3) : Bool :=
  allowedPair p.1 p.2 && p.2 != Op.pacedDelay && p.1 != St.syncingPb

/-- A selected row that keeps IDX and ATTEMPT and whose successors pass on. -/
theorem Selected.controlInv_of_successors {i : Instr} (hsel : Selected s i) (h : exec i s = .next t) (hpor : i ≠ .evPor)
    (hi : .idx ∉ writes i) (ha : .attempt ∉ writes i)
    (hsucc : (successors i).all passesOn = true) (hs : s.ControlInv) : t.ControlInv := by
  have hframe := (exec_effect h hpor).frame
  have hpar := (exec_sameInputs h).1
  rcases hsel.moves h with ⟨hst, hop⟩ | hmem
  · exact hs.congr hpar hst hop (hframe .idx hi) (hframe .attempt ha)
  · have hpass := List.all_eq_true.mp hsucc _ hmem
    simp only [passesOn, Bool.and_eq_true, bne_iff_ne] at hpass
    obtain ⟨⟨hpair, hdelay⟩, hscan⟩ := hpass
    exact hs.move hpar (hframe .idx hi) (hframe .attempt ha) hpair (fun hd => absurd hd hdelay)
      (fun hst => absurd hst hscan)

/-- A fault leaves the registers as they are (60 R126). -/
theorem State.ControlInv.of_fault (hs : s.ControlInv) {code : Byte} {ev : Event} (h : FaultEntered code ev [] s t) :
    t.ControlInv := by
  obtain ⟨-, -, -, hframe⟩ := h
  exact hs.congr (hframe .par (by simp)) (hframe .stateReg (by simp)) (hframe .op (by simp)) (hframe .idx (by simp))
    (hframe .attempt (by simp))

/-- Below `K <= 255` ATTEMPT does not wrap (log 23). -/
theorem attempt_succ_toNat {p : Params} {a : Byte} (h : a.toNat < p.maxAttempts) : (a + 1#8).toNat = a.toNat + 1 := by
  have hk := p.attempts_range
  rw [BitVec.toNat_add, BitVec.toNat_ofNat]
  omega

/-- Below `N - 1 <= 254` IDX does not wrap (log 23). -/
theorem idx_succ_toNat {p : Params} {i : Byte} (h : i.toNat + 1 < p.n) : (i + 1#8).toNat = i.toNat + 1 := by
  have hn := p.n_le
  rw [BitVec.toNat_add, BitVec.toNat_ofNat]
  omega

theorem stepInit_controlInv (hs : s.ControlInv) (h : exec .stepInit s = .next t) : t.ControlInv := by
  cases h
  exact .of_pair St.syncingPb Op.syncpbProbe rfl rfl hs.index (Nat.zero_le _) (fun hd => absurd hd (by decide))
    fun _ => s.par.attempts_range.1

/-- A probe counts, and asks for another one only below `K` (42 R91). -/
theorem stepSyncpbProbe_controlInv (hs : s.ControlInv) (hst : s.stateReg = St.syncingPb)
    (h : exec .stepSyncpbProbe s = .next t) : t.ControlInv := by
  cases hd : pbDraw s.par.block s.env with
  | mk r e =>
    obtain ⟨hbyte, hfail⟩ := syncPbProbeDecides s e
    cases r with
    | fail =>
      obtain ⟨u, hu, hfault⟩ := hfail hd
      cases hu.symm.trans h
      exact hs.of_fault hfault
    | byte b =>
      obtain ⟨u, hu, hatt, hdecision, -, -, -, hframe⟩ := hbyte b hd
      cases hu.symm.trans h
      have hpar : t.par = s.par := hframe .par (by simp)
      have hidx : t.idx = s.idx := hframe .idx (by simp)
      have hscan := hs.attemptsScan hst
      have hcount : t.attempt.toNat = s.attempt.toNat + 1 := hatt ▸ attempt_succ_toNat hscan
      have hidx' : t.idx.toNat < t.par.n := by rw [hpar, hidx]; exact hs.index
      have hatt' : t.attempt.toNat ≤ t.par.maxAttempts := by rw [hpar, hcount]; omega
      have ended (hop : t.op = Op.none) (hst' : t.stateReg = St.syncedPb) : t.ControlInv :=
        .of_pair St.syncedPb Op.none hst' hop hidx' hatt' (fun hd => absurd hd (by decide))
          fun hs' => absurd hs' (by decide)
      split_ifs at hdecision with hmarker hlast
      · obtain ⟨-, hop, hst'⟩ := hdecision
        exact ended hop hst'
      · obtain ⟨-, hop, hst'⟩ := hdecision
        exact ended hop hst'
      · obtain ⟨-, hop, hst'⟩ := hdecision
        rw [← hatt, hcount] at hlast
        exact .of_pair St.syncingPb Op.syncpbDelay (hst'.trans hst) hop hidx' hatt' (fun hd => absurd hd (by decide))
          fun _ => by rw [hpar, hcount]; omega

theorem stepSyncpbDelay_controlInv (hs : s.ControlInv) (hst : s.stateReg = St.syncingPb)
    (h : exec .stepSyncpbDelay s = .next t) : t.ControlInv := by
  cases h
  exact .of_pair St.syncingPb Op.syncpbProbe hst rfl hs.index hs.attempts (fun hd => absurd hd (by decide))
    fun _ => hs.attemptsScan hst

/-- LCDReceived begins the Paced exchange at index 0 (43 R107). -/
theorem stepLcdreceived_controlInv (hs : s.ControlInv) (h : exec .stepLcdreceived s = .next t) : t.ControlInv := by
  have hpar := (exec_sameInputs h).1
  have hatt : t.attempt = s.attempt := (effect_stepLcdreceived h).frame .attempt (by simp [writes])
  have hcount : t.attempt.toNat ≤ t.par.maxAttempts := by rw [hpar, hatt]; exact hs.attempts
  have hn := t.par.n_ge
  cases h
  exact .of_pair St.requestPb Op.pacedXfer rfl rfl (Nat.lt_of_lt_of_le Nat.zero_lt_two hn) hcount
    (fun hd => absurd hd (by decide)) fun hst => absurd hst (by decide)

/-- A byte that is not the last leaves one to come (43 R108). -/
theorem stepRequestpbXfer_controlInv (hs : s.ControlInv) (hst : s.stateReg = St.requestPb)
    (h : exec .stepRequestpbXfer s = .next t) : t.ControlInv := by
  have hn := s.par.n_ge
  cases hd : pbDraw s.par.block s.env with
  | mk r e =>
    obtain ⟨hbyte, hfail⟩ := requestPbSendsOneByte s e hs.index
    cases r with
    | fail =>
      obtain ⟨u, hu, hfault⟩ := hfail hd
      cases hu.symm.trans h
      exact hs.of_fault hfault
    | byte b =>
      obtain ⟨u, hu, hnext, -, -, -, hframe⟩ := hbyte b hd
      cases hu.symm.trans h
      have hpar : t.par = s.par := hframe .par (by simp)
      have hidx : t.idx = s.idx := hframe .idx (by simp)
      have hatt : t.attempt = s.attempt := hframe .attempt (by simp)
      have hindex := hs.index
      have hidx' : t.idx.toNat < t.par.n := by rw [hpar, hidx]; exact hindex
      have hatt' : t.attempt.toNat ≤ t.par.maxAttempts := by rw [hpar, hatt]; exact hs.attempts
      split_ifs at hnext with hlast
      · obtain ⟨hop, hst'⟩ := hnext
        exact .of_pair St.pbReceived Op.none hst' hop hidx' hatt' (fun hd => absurd hd (by decide))
          fun hs' => absurd hs' (by decide)
      · obtain ⟨hop, hst'⟩ := hnext
        exact .of_pair St.requestPb Op.pacedDelay (hst'.trans hst) hop hidx' hatt'
          (fun _ => by rw [hpar, hidx]; omega) fun hs' => absurd hs' (by decide)

theorem stepRequestpbDelay_controlInv (hs : s.ControlInv) (hst : s.stateReg = St.requestPb)
    (hop : s.op = Op.pacedDelay) (h : exec .stepRequestpbDelay s = .next t) : t.ControlInv := by
  cases h
  have hnext := hs.indexDelay hop
  exact .of_pair St.requestPb Op.pacedXfer hst rfl ((idx_succ_toNat hnext).symm ▸ hnext) hs.attempts
    (fun hd => absurd hd (by decide)) fun hs' => absurd hs' (by decide)

/-- Every row keeps the controller's registers in range from the pair that selects it. -/
theorem Selected.controlInv {i : Instr} (hsel : Selected s i) (h : exec i s = .next t) (hs : s.ControlInv) :
    t.ControlInv := by
  cases hsel with
  | init => exact stepInit_controlInv hs h
  | syncpbProbe hst => exact stepSyncpbProbe_controlInv hs hst h
  | syncpbDelay hst => exact stepSyncpbDelay_controlInv hs hst h
  | lcdreceived => exact stepLcdreceived_controlInv hs h
  | requestpbXfer hst => exact stepRequestpbXfer_controlInv hs hst h
  | requestpbDelay hst hop => exact stepRequestpbDelay_controlInv hs hst hop h
  | syncedpb | synclcdProbe | synclcdTail | syncedlcd | idle | requestlcd | pbreceived =>
    refine Selected.controlInv_of_successors (by constructor <;> assumption) h Instr.noConfusion
      (by simp [writes, xferFields]) (by simp [writes, xferFields]) rfl hs

/-- A completion ends the wait in AwaitingLCD, where OP is NONE (43 R99, R106). -/
theorem takeCompletion_controlInv (hs : s.ControlInv) : (takeCompletion s).ControlInv := by
  have hframe := (effect_takeCompletion s).frame
  have hst := takeCompletion_stateReg s
  have hop : (takeCompletion s).op = s.op := hframe .op (by simp [writes])
  have hpar := (takeCompletion_sameInputs s).1
  have hidx : (takeCompletion s).idx = s.idx := hframe .idx (by simp [writes])
  have hatt : (takeCompletion s).attempt = s.attempt := hframe .attempt (by simp [writes])
  split_ifs at hst with hawaiting
  · have hpair : allowedPair St.lcdReceived s.op = true := by
      have := hs.pair
      rwa [hawaiting] at this
    exact hs.move hpar hidx hatt (by rw [hst, hop]; exact hpair) (by rw [hop]; exact id)
      fun hs' => by rw [hst] at hs'; cases hs'
  · exact hs.congr hpar hst hop hidx hatt

theorem decodeEvent_controlInv {c : BitVec 2} (h : exec (decodeEvent c) s = .next t) (hs : s.ControlInv) :
    t.ControlInv := by
  unfold decodeEvent at h
  split_ifs at h
  · cases h; exact .of_init rfl rfl rfl rfl
  · cases h; exact hs.congr rfl rfl rfl rfl rfl
  · cases h
    split
    · exact hs.congr rfl rfl rfl rfl rfl
    · exact takeCompletion_controlInv hs
  · cases h; exact hs.congr rfl rfl rfl rfl rfl

end

/-! Every step -/

/-- Settles O12: whatever row a step runs keeps both halves, and so do a hold, a soft reset and a RULESET change. -/
theorem stepKeepsTheInvariant : Obligations.StepKeepsTheInvariant := by
  intro s t hinv h
  obtain ⟨x, e, hx⟩ : ∃ x e, nextStimulus s.par.block s.env = (x, e) := ⟨_, _, rfl⟩
  have hd : (s.withEnv e).DataInv := hinv.data.withEnv e
  have hc : (s.withEnv e).ControlInv := hinv.control.congr rfl rfl rfl rfl rfl
  apply step_elim h x e hx
  case held => exact fun _ => hd.inv hc
  case ruleset => exact fun _ _ => State.DataInv.inv (hd.congr rfl rfl rfl rfl rfl rfl) (hc.congr rfl rfl rfl rfl rfl)
  case soft => exact fun _ _ _ => State.DataInv.inv (hd.congr rfl rfl rfl rfl rfl rfl) (.of_init rfl rfl rfl rfl)
  case row =>
    intro _ _ _ hi
    rcases selected_decodeState (s.withEnv e) with hhold | hsel
    · cases (exec_of_isHoldingRow hhold _).symm.trans hi
      exact hd.inv hc
    · exact (exec_dataInv hi hd).inv (hsel.controlInv hi hc)
  case port =>
    exact fun k _ hi => (exec_dataInv hi hd).inv
      (exec_controlInv_of_frame hi Instr.noConfusion (by simp [controllerFields, writes]) hc)
  case host =>
    intro w _ hi
    rcases exec_decodeHost_cases w (s.withEnv e) with ⟨b, ht⟩ | ⟨d, ht⟩ | ht | ht
    all_goals
      cases ht.symm.trans hi
      exact State.DataInv.inv (hd.congr rfl rfl rfl rfl rfl rfl) (hc.congr rfl rfl rfl rfl rfl)
  case event => exact fun c _ hi => (exec_dataInv hi hd).inv (decodeEvent_controlInv hi hc)
  case datapath =>
    exact fun w i _ _ hw hi => (exec_dataInv hi hd).inv
      (exec_controlInv_of_frame hi (decodeInternal_ne_evPor hw) (decodeInternal_controllerFields hw) hc)

/-- Settles O11: after reset every register is clear, no byte of memory and no slot is listed, and OP is not the tail's. -/
theorem resetMeetsTheInvariant : Obligations.ResetMeetsTheInvariant := by
  refine ⟨State.DataInv.inv ?data (.of_init rfl rfl rfl rfl), ?tail⟩
  case data => exact ⟨rfl, ⟨rfl, by simp [State.reset]⟩, fun _ => rfl, List.length_replicate, rfl⟩
  case tail => exact fun htail => absurd (htail : Op.none = Op.synclcdTail) (by decide)

end Sys2Proof.Machine
end

section
/-! PROOFS. The steps of the agents (00 R15) under the invariant: each completes, and each keeps what the SyncLCD tail
relies on (42 R94, R95). -/

namespace Sys2Proof.Machine

/-! Completion -/

/-- With `IDX < N` a selected row completes: the one that could stop is the Paced byte (log 17). -/
theorem Selected.completes {s : State} {i : Instr} (hsel : Selected s i) (hidx : s.idx.toNat < s.par.n) :
    ∃ t, exec i s = .next t := by
  cases hsel with
  | requestpbXfer => exact ⟨_, if_pos hidx⟩
  | _ => exact ⟨_, rfl⟩

theorem controllerStep_completes {s : State} (hidx : s.idx.toNat < s.par.n) : ∃ t, controllerStep s = .next t := by
  unfold controllerStep
  split
  · exact ⟨_, rfl⟩
  · split
    · exact ⟨_, rfl⟩
    · rcases selected_decodeState s with hhold | hsel
      · exact ⟨s, exec_of_isHoldingRow hhold s⟩
      · exact hsel.completes hidx

theorem exec_decodeHost_completes (w : BitVec 13) (s : State) : ∃ t, exec (decodeHost w) s = .next t := by
  rcases exec_decodeHost_cases w s with ⟨b, ht⟩ | ⟨d, ht⟩ | ht | ht
  all_goals exact ⟨_, ht⟩

theorem exec_decodeEvent_completes (c : BitVec 2) (s : State) : ∃ t, exec (decodeEvent c) s = .next t := by
  unfold decodeEvent
  split_ifs
  all_goals exact ⟨_, rfl⟩

theorem moveStep_completes (m : Move) {s : State} (hidx : s.idx.toNat < s.par.n) : ∃ t, moveStep m s = .next t := by
  cases m with
  | controller => exact controllerStep_completes hidx
  | pbPort k => exact ⟨_, rfl⟩
  | host w => exact exec_decodeHost_completes w s
  | event c => exact exec_decodeEvent_completes c s
  | setRuleset r => exact ⟨_, rfl⟩

/-- Settles O13: an agent's move completes where `IDX < N`; a datapath word without a row is refused before any row. -/
theorem agentStepsComplete : Obligations.AgentStepsComplete := by
  refine ⟨fun s hinv ⟨m, hm⟩ => ?agent, fun s w e rest hinbox hf hw => ?refused⟩
  case agent =>
    obtain ⟨x, e, hx⟩ : ∃ x e, nextStimulus s.par.block s.env = (x, e) := ⟨_, _, rfl⟩
    rw [hx] at hm
    subst hm
    obtain ⟨t, ht⟩ := moveStep_completes m (s := s.withEnv e) hinv.index
    exact ⟨t, by simpa [step, machineStep, hx, runStimulus] using ht⟩
  case refused => simp [step_of_datapath hinbox, datapathStep, hf, hw]

/-! The premise of the SyncLCD tail -/

section
variable {s t : State}

theorem TailReady.congr (h : TailReady s) (hp : t.par = s.par) (hop : t.op = s.op) (hb : t.lcdBusy = s.lcdBusy)
    (hm : t.bufByte .lcdRx 0 = s.bufByte .lcdRx 0) : TailReady t := by
  intro htail
  rw [hb, hm, hp]
  exact h (hop ▸ htail)

theorem TailReady.of_op {op : BitVec 3} (hop : t.op = op) (hne : op ≠ Op.synclcdTail) : TailReady t :=
  fun htail => absurd (hop ▸ htail) hne

/-- A step that writes neither OP nor the LCD's side of the block. -/
theorem TailReady.of_frame {w : List Field} (h : TailReady s) (hframe : SameBut w s t) (hp : .par ∉ w) (hop : .op ∉ w)
    (hb : .lcdBusy ∉ w) (hm : .mem ∉ w) : TailReady t := by
  have hpar : t.par = s.par := hframe .par hp
  refine h.congr hpar (hframe .op hop) (hframe .lcdBusy hb) ?_
  simp only [State.bufByte, State.base, hpar]
  exact hframe .mem hm _

theorem successors_op_ne_tail {i : Instr} (hi : i ≠ .stepSynclcdProbe) {p : BitVec 4 × BitVec 3}
    (hp : p ∈ successors i) : p.2 ≠ Op.synclcdTail := by
  have hall : i = .stepSynclcdProbe ∨ (successors i).all (fun p => p.2 != Op.synclcdTail) = true := by
    cases i with
    | stepSynclcdProbe => exact .inl rfl
    | _ => exact .inr rfl
  simpa using List.all_eq_true.mp (hall.resolve_left hi) p hp

/-- From a pair with another OP only the LCD probe selects the tail. -/
theorem Selected.tailReady_of_moves {i : Instr} (hsel : Selected s i) (h : exec i s = .next t)
    (hi : i ≠ .stepSynclcdProbe) (hop : s.op ≠ Op.synclcdTail) : TailReady t := by
  rcases hsel.moves h with ⟨-, hstay⟩ | hmem
  · exact .of_op hstay hop
  · exact .of_op rfl (successors_op_ne_tail hi hmem)

/-- The probe selects the tail on the marker, which is then `LCD_RX[0]`, with no burst in flight (42 R94). -/
theorem stepSynclcdProbe_tailReady (hop : s.op = Op.synclcdProbe) (h : exec .stepSynclcdProbe s = .next t) :
    TailReady t := by
  cases h
  have stays {u : State} (hu : u.op = s.op) : TailReady u := .of_op (hu.trans hop) (by decide)
  refine probeOp_elim (P := TailReady) .lcd s _ (fun _ => stays rfl) (fun _ => stays rfl) ?lcd (by simp)
  case lcd =>
    intro _ hb e b
    split
    case isTrue hmarker => exact fun _ => ⟨hb, (bufByte_writeByte_base _ .lcdRx b).trans hmarker⟩
    case isFalse => exact stays rfl

/-- The tail's row holds or faults with its premise as it was, or leaves the tail (42 R95). -/
theorem stepSynclcdTail_tailReady (hready : TailReady s) (h : exec .stepSynclcdTail s = .next t) : TailReady t := by
  cases h
  refine burstSyncOp_elim (P := TailReady) s _ (fun _ => hready.congr rfl rfl rfl rfl)
    (fun _ => hready.congr rfl rfl rfl rfl) ?done
  case done =>
    intro _ e rx _
    unfold syncLcdDecide
    split
    · exact .of_op (op := Op.none) rfl (by decide)
    · exact .of_op (op := Op.synclcdProbe) rfl (by decide)

theorem Selected.tailReady {i : Instr} (hsel : Selected s i) (h : exec i s = .next t) (hready : TailReady s) :
    TailReady t := by
  cases hsel with
  | synclcdProbe hst hop => exact stepSynclcdProbe_tailReady hop h
  | synclcdTail => exact stepSynclcdTail_tailReady hready h
  | init hst hop | syncpbProbe hst hop | syncpbDelay hst hop | syncedpb hst hop | syncedlcd hst hop | idle hst hop
  | requestlcd hst hop | lcdreceived hst hop | requestpbXfer hst hop | requestpbDelay hst hop | pbreceived hst hop =>
    exact Selected.tailReady_of_moves (by constructor <;> assumption) h Instr.noConfusion (by rw [hop]; decide)

/-- A landing in PB_RX leaves LCD_RX (20 R40). -/
theorem pbLand_tailReady {k : Byte} (h : exec (.pbLand k) s = .next t) (hready : TailReady s) : TailReady t := by
  have hframe := (effect_pbLand h).frame
  have hpar : t.par = s.par := (exec_sameInputs h).1
  refine hready.congr hpar (hframe .op (by simp [writes])) (hframe .lcdBusy (by simp [writes])) ?_
  cases h
  split
  case h_1 p _ _ =>
    have hn := s.par.n_ge
    refine (sameOutside_writeBytes s (s.base .pbRx + k.toNat) [p]) (s.base .lcdRx + 0) ?_
    simp only [State.base, Buf.base]
    omega
  case h_2 => rfl

/-- A completion in the tail finds no burst in flight, so it is SPURIOUS and only the guard runs (log 6). -/
theorem takeCompletion_tailReady (hready : TailReady s) : TailReady (takeCompletion s) := by
  have hop : (takeCompletion s).op = s.op := (effect_takeCompletion s).frame .op (by simp [writes])
  by_cases htail : s.op = Op.synclcdTail
  · obtain ⟨hb, -⟩ := hready htail
    obtain ⟨e, ht⟩ := takeCompletion_of_spurious (s := s) (e := s.env) (.inl hb)
    rw [ht]
    exact (hready.congr (t := s.withEnv e) rfl rfl rfl rfl).of_frame (sameBut_completionGuard _) (by simp) (by simp)
      (by simp) (by simp)
  · exact .of_op hop htail

theorem decodeEvent_tailReady {c : BitVec 2} (h : exec (decodeEvent c) s = .next t) (hready : TailReady s) :
    TailReady t := by
  unfold decodeEvent at h
  split_ifs at h
  · cases h; exact .of_op (op := Op.none) rfl (by decide)
  · cases h; exact hready.congr rfl rfl rfl rfl
  · cases h
    split
    · exact hready.congr rfl rfl rfl rfl
    · exact takeCompletion_tailReady hready
  · cases h; exact hready.congr rfl rfl rfl rfl

end

/-- Settles O17: only the LCD probe selects the tail, and of the agents' steps none but the tail's own row touches what
the tail relies on. -/
theorem agentStepsKeepTheTailReady : Obligations.AgentStepsKeepTheTailReady := by
  intro s t ⟨m, hm⟩ _ hready h
  obtain ⟨x, e, hx⟩ : ∃ x e, nextStimulus s.par.block s.env = (x, e) := ⟨_, _, rfl⟩
  rw [hx] at hm
  have hu : TailReady (s.withEnv e) := hready.congr rfl rfl rfl rfl
  apply step_elim h x e hx
  case held => exact fun _ => hu
  case soft => exact fun _ _ _ => .of_op (op := Op.none) rfl (by decide)
  case ruleset => exact fun _ _ => hu.congr rfl rfl rfl rfl
  case row =>
    intro _ _ _ hi
    rcases selected_decodeState (s.withEnv e) with hhold | hsel
    · cases (exec_of_isHoldingRow hhold _).symm.trans hi
      exact hu
    · exact hsel.tailReady hi hu
  case port => exact fun _ _ hi => pbLand_tailReady hi hu
  case host =>
    intro w _ hi
    rcases exec_decodeHost_cases w (s.withEnv e) with ⟨b, ht⟩ | ⟨d, ht⟩ | ht | ht
    all_goals
      cases ht.symm.trans hi
      exact hu.congr rfl rfl rfl rfl
  case event => exact fun _ _ hi => decodeEvent_tailReady hi hu
  case datapath =>
    -- the step is an agent's, not the test bench's
    intro w _ hw
    rw [hw] at hm
    cases hm

end Sys2Proof.Machine
end

section
/-! PROOFS. Runs of several steps: how steps chain, what an agent's move at the head of the inbox does to a state that is
ready for it, and which buffers a step leaves. -/

namespace Sys2Proof.Machine

/-! Chaining steps -/

/-- `k` steps lead from one state to another. -/
def Runs (k : Nat) (s t : State) : Prop := Host.Core.run core k s = .next t

theorem Runs.step {k : Nat} {s t u : State} (h : Machine.step s = .next t) (hrest : Runs k t u) : Runs (k + 1) s u := by
  have hstep : core.step s = .next t := h
  simpa only [Runs, Host.Core.run, hstep] using hrest

theorem Runs.refl (s : State) : Runs 0 s s := rfl

theorem Runs.one {s t : State} (h : Machine.step s = .next t) : Runs 1 s t := (Runs.refl t).step h

theorem Runs.trans {k l : Nat} {s t u : State} (hst : Runs k s t) (htu : Runs l t u) : Runs (k + l) s u := by
  induction k generalizing s with
  | zero =>
    have hs : s = t := Host.Outcome.next.inj hst
    rwa [Nat.zero_add, hs]
  | succ k ih =>
    cases hstep : Machine.step s with
    | next v =>
      have hcore : core.step s = .next v := hstep
      have hvt : Runs k v t := by simpa only [Runs, Host.Core.run, hcore] using hst
      exact Nat.succ_add_eq_add_succ k l ▸ Runs.step hstep (ih hvt)
    | fault r =>
      have hcore : core.step s = .fault r := hstep
      simp [Runs, Host.Core.run, hcore] at hst
    | refused r =>
      have hcore : core.step s = .refused r := hstep
      simp [Runs, Host.Core.run, hcore] at hst

/-! The head of the inbox -/

/-- The state with another inbox. -/
def State.withInbox (s : State) (inbox : List Stimulus) : State := s.withEnv { s.env with inbox := inbox }

theorem sameBut_withInbox (s : State) (inbox : List Stimulus) : SameBut [.env] s (s.withInbox inbox) :=
  sameBut_withEnv s _

/-- The controller is at a pair (STATE, OP), free to run its row, and `inbox` is what the agents do next. -/
structure Ready (st : BitVec 4) (o : BitVec 3) (inbox : List Stimulus) (s : State) : Prop where
  stateReg : s.stateReg = st
  op : s.op = o
  faulted : s.faulted = false
  srstPending : s.srstPending = false
  inbox : s.env.inbox = inbox

/-- A micro-step of a controller that is free runs the row of its pair. -/
theorem Ready.step {st : BitVec 4} {o : BitVec 3} {rest : List Stimulus} {s : State}
    (h : Ready st o (.move .controller :: rest) s) :
    Machine.step s = exec (decodeStep o st) (s.withInbox rest) := by
  rw [step_of_controller h.inbox, ← h.stateReg, ← h.op, ← decodeState_selector]
  exact controllerStep_of_ready (s := s.withInbox rest) h.faulted h.srstPending

/-- A step that enters no fault and requests no reset leaves the controller free. -/
theorem Ready.of_sameBut {st st' : BitVec 4} {o o' : BitVec 3} {inbox inbox' : List Stimulus} {w : List Field}
    {s t : State} (h : Ready st o inbox s) (same : SameBut w s t) (hfaulted : Field.faulted ∉ w)
    (hpending : Field.srstPending ∉ w) (hst : t.stateReg = st') (hop : t.op = o') (hinbox : t.env.inbox = inbox') :
    Ready st' o' inbox' t :=
  ⟨hst, hop, (same .faulted hfaulted).trans h.faulted, (same .srstPending hpending).trans h.srstPending, hinbox⟩

/-! Buffers a step leaves -/

theorem readBuf_of_sameBut {w : List Field} {s t : State} (same : SameBut w s t) (hpar : Field.par ∉ w)
    (hmem : Field.mem ∉ w) (b : Buf) : t.readBuf b = s.readBuf b :=
  readBuf_eq_of_bytes (same .par hpar) b fun _ _ => same .mem hmem _

/-- No address of one buffer lies in another. -/
theorem base_add_not_mem (s : State) {b c : Buf} (h : b ≠ c) {i : Nat} (hi : i < s.par.n) :
    ¬ (s.base c ≤ s.base b + i ∧ s.base b + i < s.base c + s.par.n) := fun ⟨hlo, hhi⟩ => by
  have hne : s.base b + i ≠ s.base c + (s.base b + i - s.base c) := base_disjoint s.par b c h i _ hi (by omega)
  omega

theorem readBuf_of_sameOutside {s t : State} {b : Buf} (hpar : t.par = s.par)
    (h : SameOutside s t (s.base b) s.par.n) {c : Buf} (hc : c ≠ b) : t.readBuf c = s.readBuf c :=
  readBuf_eq_of_bytes hpar c fun _ hi => h _ (base_add_not_mem s hc hi)

/-! A completion and a soft reset in AwaitingLCD (60 R130) -/

/-- An END completion whose bytes the environment has ready. -/
theorem step_of_done {s : State} {rx : List Byte} {dones : List Completion} {rest : List Stimulus}
    (hinbox : s.env.inbox = .move (.event 0b10#2) :: rest) (hfaulted : s.faulted = false) (hbusy : s.lcdBusy = true)
    (hdones : s.env.dones = .done rx :: dones) (hrx : rx.length = s.par.n) :
    ∃ t, step s = .next t ∧ t.readBuf .lcdRx = rx ∧ t.readBuf .pbTx = s.readBuf .pbTx ∧
      t.stateReg = (if s.stateReg = St.awaitingLcd then St.lcdReceived else s.stateReg) ∧
      t.trace = s.trace ++ [.land .lcd 0 rx, .done .lcd (s.stateReg == St.awaitingLcd)] ∧
      t.env = { s.env with inbox := rest, dones := dones }.tick ∧
      SameBut [.mem, .lcdBusy, .stateReg, .trace, .env] s t := by
  have hdraw := doneDraw_done s.par.block (s.withInbox rest).env rx dones hdones
  obtain ⟨t, hexec, hland, houtside, -, hst, htrace, henv, same⟩ :=
    lcdCompletionLandsThenGuards (s.withInbox rest) _ rx hfaulted hbusy (hrx ▸ hdraw)
  have hall : SameBut [.mem, .lcdBusy, .stateReg, .trace, .env] s t :=
    (sameBut_withInbox s rest).trans same (by simp)
  exact ⟨t, (step_of_move hinbox).trans hexec, hland,
    readBuf_of_sameOutside (s := s) (b := .lcdRx) (hall .par (by decide)) houtside (by decide), hst, htrace,
    henv, hall⟩

/-- SRST, then the micro-step that applies it. -/
theorem runs_softReset {s : State} {rest : List Stimulus}
    (hinbox : s.env.inbox = .move (.event 0b01#2) :: .move .controller :: rest) (hfaulted : s.faulted = false) :
    ∃ t, Runs 2 s t ∧ t.stateReg = St.init ∧ t.srstPending = false ∧ t.trace = s.trace ++ [.srst] ∧
      t.env = { s.env with inbox := rest } ∧
      SameBut [.stateReg, .op, .idx, .attempt, .pbSynced, .srstPending, .trace, .env] s t := by
  let u := requestSoftReset (s.withInbox (.move .controller :: rest))
  have hrequest : step s = .next u := step_of_move hinbox
  have hu : SameBut [.srstPending, .env] s u :=
    (sameBut_withInbox s _).trans (sameBut_requestSoftReset _) (by simp)
  obtain ⟨t, happly, hst, -, -, -, -, hpending, htrace, henv, same⟩ :=
    (softResetIsAppliedFirst u rest rfl).2 hfaulted rfl
  exact ⟨t, (Runs.one happly).step hrequest, hst, hpending, htrace, henv, hu.trans same (by simp)⟩

/-- Settles O57: the completion and the soft reset write different elements, so each order has the effect of both; only
the guard, which looks at STATE, tells the orders apart. -/
theorem completionAndSoftResetInEitherOrder : Obligations.CompletionAndSoftResetInEitherOrder := by
  intro s rx dones rest hst hfaulted hbusy _ hdones hrx
  refine ⟨fun hinbox => ?doneFirst, fun hinbox => ?resetFirst⟩
  case doneFirst =>
    obtain ⟨t, hdone, hland, hpbTx, -, htrace, henv, same⟩ := step_of_done hinbox hfaulted hbusy hdones hrx
    obtain ⟨u, hreset, hinit, hpending, hsrst, -, sameReset⟩ :=
      runs_softReset (congrArg (·.inbox) henv) ((same .faulted (by decide)).trans hfaulted)
    have hkept := readBuf_of_sameBut sameReset (by decide) (by decide)
    refine ⟨u, hreset.step hdone, hinit, hpending, (hkept .lcdRx).trans hland, (hkept .pbTx).trans hpbTx, ?_⟩
    rw [hsrst, htrace, hst]
    simp
  case resetFirst =>
    obtain ⟨t, hreset, hinit, hpending, hsrst, henv, sameReset⟩ := runs_softReset hinbox hfaulted
    have hkept := readBuf_of_sameBut sameReset (by decide) (by decide)
    have hpar : t.par = s.par := sameReset .par (by decide)
    obtain ⟨u, hdone, hland, hpbTx, hguard, htrace, -, same⟩ :=
      step_of_done (congrArg Env.inbox henv) ((sameReset .faulted (by decide)).trans hfaulted)
        ((sameReset .lcdBusy (by decide)).trans hbusy) ((congrArg Env.dones henv).trans hdones) (hpar ▸ hrx)
    refine ⟨u, hreset.trans (Runs.one hdone), ?_, (same .srstPending (by decide)).trans hpending, hland,
      hpbTx.trans (hkept .pbTx), ?_⟩
    · rw [hguard, hinit]
      decide
    · rw [htrace, hsrst, hinit]
      simp [St.init, St.awaitingLcd]

end Sys2Proof.Machine
end

section
/-! PROOFS. The relay of one LCD frame (43 R115): RequestLCD starts the burst, END lands the frame, LCDReceived forwards or
counts it. Each step asks for the pair the one before it left. -/

namespace Sys2Proof.Machine

/-- Forwarding leaves LCD_RX: the hook writes PB_TX and the debug hook a byte of LCD_TX. -/
theorem readBuf_lcdRx_of_forwarded {s t : State} {f : List Byte} (hpar : t.par = s.par)
    (h : ∀ a, ¬ (s.base .pbTx ≤ a ∧ a < s.base .pbTx + s.par.n) →
      t.byteAt a = if s.debugEn = true ∧ debugTarget s f = some a then s.byteAt a + 1#8 else s.byteAt a) :
    t.readBuf .lcdRx = s.readBuf .lcdRx := by
  refine readBuf_eq_of_bytes hpar .lcdRx fun i hi => ?_
  rw [h _ (base_add_not_mem s (by decide) hi)]
  refine if_neg fun ⟨_, htarget⟩ => base_add_not_mem s (b := .lcdRx) (c := .lcdTx) (by decide) hi ?_
  have hrange := debugTarget_range htarget
  omega

/-! The three steps -/

theorem step_requestLcd {s : State} {starts : List Status} {rest : List Stimulus}
    (ready : Ready St.requestLcd Op.none (.move .controller :: rest) s) (hbusy : s.lcdBusy = false)
    (hstarts : s.env.starts = .ok :: starts) :
    ∃ t, step s = .next t ∧ Ready St.awaitingLcd Op.none rest t ∧ t.lcdBusy = true ∧
      t.env = { s.env with inbox := rest, starts := starts }.tick ∧
      SameBut [.stateReg, .lcdBusy, .lcdInflightTx, .trace, .env] s t := by
  have hdraw := startDraw_cons s.par.block (s.withInbox rest).env .ok starts hstarts
  obtain ⟨t, hexec, hst, hflying, -, -, henv, same⟩ :=
    (requestLcdStartsTheBurst (s.withInbox rest) _).2.1 hbusy hdraw
  have hall : SameBut [.stateReg, .lcdBusy, .lcdInflightTx, .trace, .env] s t :=
    (sameBut_withInbox s rest).trans same (by simp)
  exact ⟨t, ready.step.trans hexec,
    ready.of_sameBut hall (by decide) (by decide) hst ((hall .op (by decide)).trans ready.op)
      (congrArg (·.inbox) henv), hflying, henv, hall⟩

/-- The END that ends the burst of AwaitingLCD. -/
theorem step_done_awaitingLcd {s : State} {rx : List Byte} {dones : List Completion} {rest : List Stimulus}
    (ready : Ready St.awaitingLcd Op.none (.move (.event 0b10#2) :: rest) s) (hbusy : s.lcdBusy = true)
    (hdones : s.env.dones = .done rx :: dones) (hrx : rx.length = s.par.n) :
    ∃ t, step s = .next t ∧ Ready St.lcdReceived Op.none rest t ∧ t.readBuf .lcdRx = rx ∧
      t.readBuf .pbTx = s.readBuf .pbTx ∧ t.env = { s.env with inbox := rest, dones := dones }.tick ∧
      SameBut [.mem, .lcdBusy, .stateReg, .trace, .env] s t := by
  obtain ⟨t, hdone, hland, hpbTx, hguard, -, henv, same⟩ := step_of_done ready.inbox ready.faulted hbusy hdones hrx
  rw [if_pos ready.stateReg] at hguard
  exact ⟨t, hdone,
    ready.of_sameBut same (by decide) (by decide) hguard ((same .op (by decide)).trans ready.op)
      (congrArg (·.inbox) henv), hland, hpbTx, henv, same⟩

theorem step_lcdReceived {s : State} {rest : List Stimulus}
    (ready : Ready St.lcdReceived Op.none (.move .controller :: rest) s) :
    ∃ t, step s = .next t ∧ Ready St.requestPb Op.pacedXfer rest t ∧ t.idx = 0#8 ∧
      t.env = { s.env with inbox := rest } ∧ t.par = s.par ∧ t.readBuf .lcdRx = s.readBuf .lcdRx ∧
      (if validFrame s.par .lcd (s.readBuf .lcdRx) then
         t.readBuf .pbTx = hook s.par .lcd2pb s.ruleset (s.readBuf .lcdRx) ∧ t.errLcd = s.errLcd
       else t.readBuf .pbTx = s.readBuf .pbTx ∧ t.errLcd.toNat = (s.errLcd.toNat + 1) % 256) := by
  obtain ⟨forwarded, counted⟩ := lcdReceivedForwardsOrCounts (s.withInbox rest)
  have hbefore := sameBut_withInbox s rest
  split
  case isTrue hvalid =>
    obtain ⟨t, hexec, hpbTx, hbytes, hidx, hop, hst, -, same⟩ := forwarded hvalid
    have hall : SameBut [.env, .mem, .idx, .op, .stateReg, .trace] s t := hbefore.trans same (by simp)
    have hpar : t.par = s.par := hall .par (by decide)
    have henv : t.env = (s.withInbox rest).env := same .env (by decide)
    exact ⟨t, ready.step.trans hexec,
      ready.of_sameBut hall (by decide) (by decide) hst hop (congrArg Env.inbox henv), hidx, henv, hpar,
      readBuf_lcdRx_of_forwarded (s := s) hpar hbytes, hpbTx, hall .errLcd (by decide)⟩
  case isFalse hinvalid =>
    obtain ⟨t, hexec, herr, hidx, hop, hst, -, same⟩ := counted (Bool.eq_false_iff.mpr hinvalid)
    have hall : SameBut [.env, .errLcd, .idx, .op, .stateReg, .trace] s t := hbefore.trans same (by simp)
    have hkept := readBuf_of_sameBut hall (by decide) (by decide)
    have henv : t.env = (s.withInbox rest).env := same .env (by decide)
    exact ⟨t, ready.step.trans hexec,
      ready.of_sameBut hall (by decide) (by decide) hst hop (congrArg Env.inbox henv), hidx, henv,
      hall .par (by decide), hkept .lcdRx, hkept .pbTx, herr⟩

/-- Settles O53: the three steps in a row; START and END leave what LCDReceived decides on and counts in. -/
theorem lcdFrameReachesThePb : Obligations.LcdFrameReachesThePb := by
  intro s f starts dones rest hst hop hfaulted hpending hbusy hstarts hdones hlength hinbox
  have ready : Ready St.requestLcd Op.none _ s := ⟨hst, hop, hfaulted, hpending, hinbox⟩
  obtain ⟨u, hstart, readyDone, hflying, henvu, sameu⟩ := step_requestLcd ready hbusy hstarts
  have hparu : u.par = s.par := sameu .par (by decide)
  obtain ⟨v, hdone, readyReceived, hland, hpbTx, -, samev⟩ :=
    step_done_awaitingLcd readyDone hflying ((congrArg (·.dones) henvu).trans hdones) (hparu ▸ hlength)
  have hparv : v.par = s.par := (samev .par (by decide)).trans hparu
  have hruleset : v.ruleset = s.ruleset := (samev .ruleset (by decide)).trans (sameu .ruleset (by decide))
  have herr : v.errLcd = s.errLcd := (samev .errLcd (by decide)).trans (sameu .errLcd (by decide))
  have hpbTxs : v.readBuf .pbTx = s.readBuf .pbTx :=
    hpbTx.trans (readBuf_of_sameBut sameu (by decide) (by decide) .pbTx)
  obtain ⟨t, hreceived, readyPb, -, -, -, hlcdRx, houtcome⟩ := step_lcdReceived readyReceived
  rw [hland, hparv, hruleset, hpbTxs, herr] at houtcome
  exact ⟨t, ((Runs.one hreceived).step hdone).step hstart, readyPb.stateReg, hlcdRx.trans hland, houtcome⟩

end Sys2Proof.Machine
end

section
/-! PROOFS. Exchanges with the PB (41 R89, 42 R93). Both loops of the controller alternate a one-byte transaction and a
delay, so what a run adds to the trace is told by its transactions and delays, in order. -/

namespace Sys2Proof.Machine

/-! What a run adds to the trace -/

/-- A transaction or a delay. -/
def Event.isXferOrDelay (ev : Event) : Bool := ev.isXfer || ev.isDelay

/-- The transactions and delays that the trace has gained. -/
def Saw (seen : List Event) (s t : State) : Prop :=
  ∃ es, t.trace = s.trace ++ es ∧ es.filter Event.isXferOrDelay = seen

theorem Saw.refl (s : State) : Saw [] s s := ⟨[], (List.append_nil _).symm, rfl⟩

theorem Saw.trans {a b : List Event} {s t u : State} (hst : Saw a s t) (htu : Saw b t u) : Saw (a ++ b) s u := by
  obtain ⟨es, htrace, hes⟩ := hst
  obtain ⟨es', htrace', hes'⟩ := htu
  exact ⟨es ++ es', by rw [htrace', htrace, List.append_assoc], by rw [List.filter_append, hes, hes']⟩

theorem filter_landEvents (i : Nat) (s : State) : (landEvents i s).filter Event.isXferOrDelay = [] := by
  unfold landEvents
  split <;> rfl

/-- A call's transaction is seen, the landing it causes is not. -/
theorem saw_of_call {s t u : State} {call : Event} {i : Nat} (hcall : call.isXferOrDelay = true)
    (h : t.trace = s.trace ++ call :: landEvents i u) : Saw [call] s t :=
  ⟨_, h, by rw [List.filter_cons_of_pos hcall, filter_landEvents]⟩

theorem saw_of_delay {s t : State} {d : Nat} (h : t.trace = s.trace ++ [.delay d]) : Saw [.delay d] s t := ⟨_, h, rfl⟩

/-- `d` between the members of a list is `d` after every member but the last. -/
theorem intersperse_concat {α : Type} (d x : α) (xs : List α) :
    List.intersperse d (xs ++ [x]) = xs.flatMap (fun y => [y, d]) ++ [x] := by
  induction xs with
  | nil => rfl
  | cons y ys ih =>
    cases ys with
    | nil => rfl
    | cons z zs =>
      rw [List.flatMap_cons, List.append_assoc, ← ih]
      rfl

/-! One call of a Paced exchange -/

/-- The transaction of one byte that the PB answers. -/
def pacedCall (a b : Byte) : Event := .xfer .pb .pacedByte [a] .ok (some [b])

/-- The transactions that send PB_TX from byte `i` on and are answered `bs`. -/
def pacedCalls (s : State) (i : Nat) (bs : List Byte) : List Event :=
  List.zipWith pacedCall ((s.readBuf .pbTx).drop i) bs

theorem pacedCalls_cons (s : State) {i : Nat} (hi : i < s.par.n) (b : Byte) (bs : List Byte) :
    pacedCalls s i (b :: bs) = pacedCall (s.bufByte .pbTx i) b :: pacedCalls s (i + 1) bs := by
  have hlength : i < (s.readBuf .pbTx).length := by simpa using hi
  have hbyte : (s.readBuf .pbTx)[i] = s.bufByte .pbTx i := by
    rw [← readBuf_getD s .pbTx i hi, List.getD_eq_getElem _ _ hlength]
  rw [pacedCalls, List.drop_eq_getElem_cons hlength, List.zipWith_cons_cons, hbyte]
  rfl

theorem pacedCalls_congr {s t : State} (h : t.readBuf .pbTx = s.readBuf .pbTx) (i : Nat) (bs : List Byte) :
    pacedCalls t i bs = pacedCalls s i bs := by rw [pacedCalls, pacedCalls, h]

theorem pacedCalls_concat (s : State) {i : Nat} {bs : List Byte} (h : i + bs.length < s.par.n) (b : Byte) :
    pacedCalls s i (bs ++ [b]) = pacedCalls s i bs ++ [pacedCall (s.bufByte .pbTx (i + bs.length)) b] := by
  induction bs generalizing i with
  | nil => exact (pacedCalls_cons s h b []).trans (by simp [pacedCalls])
  | cons c cs ih =>
    rw [List.length_cons] at h
    rw [List.cons_append, pacedCalls_cons s (by omega), ih (by omega), pacedCalls_cons s (by omega), List.cons_append,
      List.length_cons, Nat.add_assoc, Nat.add_comm 1]

/-- The controller is about to send byte `i` of PB_TX, and `replies` are what the PB answers next. -/
structure PacedReady (i : Nat) (replies : List PbReply) (inbox : List Stimulus) (s : State) : Prop
    extends Ready St.requestPb Op.pacedXfer inbox s where
  idx : s.idx.toNat = i
  replies : s.env.pbStream = replies

/-- From byte `i` on the PB answered `bs`: PB_TX is as it was, and with EXACT the answers are in PB_RX. -/
structure Exchanged (i : Nat) (bs : List Byte) (s t : State) : Prop where
  par : t.par = s.par
  pbTx : t.readBuf .pbTx = s.readBuf .pbTx
  pbRx : s.par.race = .exact →
    (t.readBuf .pbRx).take (i + bs.length) = (s.readBuf .pbRx).take i ++ bs

theorem Exchanged.nil (i : Nat) (s : State) : Exchanged i [] s s := ⟨rfl, rfl, fun _ => (List.append_nil _).symm⟩

theorem Exchanged.trans {i : Nat} {bs cs : List Byte} {s t u : State} (hst : Exchanged i bs s t)
    (htu : Exchanged (i + bs.length) cs t u) : Exchanged i (bs ++ cs) s u := by
  refine ⟨htu.par.trans hst.par, htu.pbTx.trans hst.pbTx, fun hrace => ?_⟩
  rw [List.length_append, ← Nat.add_assoc, htu.pbRx (hst.par ▸ hrace), hst.pbRx hrace, List.append_assoc]

theorem Exchanged.bufByte_pbTx {i j : Nat} {bs : List Byte} {s t : State} (h : Exchanged i bs s t)
    (hj : j < s.par.n) : t.bufByte .pbTx j = s.bufByte .pbTx j := by
  rw [← readBuf_getD t _ _ (h.par ▸ hj), h.pbTx, readBuf_getD s _ _ hj]

/-- A delay between two calls adds nothing. -/
theorem Exchanged.of_sameBut {i : Nat} {bs : List Byte} {s t u : State} (hst : Exchanged i bs s t) {w : List Field}
    (same : SameBut w t u) (hpar : Field.par ∉ w) (hmem : Field.mem ∉ w) : Exchanged i bs s u := by
  have hkept := readBuf_of_sameBut same hpar hmem
  exact ⟨(same .par hpar).trans hst.par, (hkept .pbTx).trans hst.pbTx, (hkept .pbRx).symm ▸ hst.pbRx⟩

theorem take_readBuf (s : State) (b : Buf) {i : Nat} (hi : i ≤ s.par.n) :
    (s.readBuf b).take i = (List.range i).map (s.bufByte b) := by
  rw [State.readBuf, State.memRead, ← List.map_take, List.take_range, Nat.min_eq_left hi]
  rfl

/-- With EXACT a byte lands at its place, and the bytes before it are left (20 R50). -/
theorem take_pbRx_of_landed {s t : State} {i : Nat} {b : Byte} (hi : i < s.par.n) (hpar : t.par = s.par)
    (hrace : s.par.race = .exact) (h : Landed i b s t) :
    (t.readBuf .pbRx).take (i + 1) = (s.readBuf .pbRx).take i ++ [b] := by
  obtain ⟨houtside, -, hland⟩ := h
  simp only [hrace] at hland
  have hbefore : (List.range i).map (t.bufByte .pbRx) = (List.range i).map (s.bufByte .pbRx) := by
    refine List.map_congr_left fun j hj => ?_
    have hj := List.mem_range.mp hj
    have hbase : t.base .pbRx = s.base .pbRx := congrArg (Buf.base · .pbRx) hpar
    exact (congrArg (fun a => t.byteAt (a + j)) hbase).trans (houtside _ (by omega))
  rw [take_readBuf t .pbRx (hpar ▸ hi), take_readBuf s .pbRx hi.le, List.range_succ, List.map_append, hbefore,
    List.map_singleton, hland.1]

theorem exchanged_of_landed {s t : State} {i : Nat} {b : Byte} (hi : i < s.par.n) (hpar : t.par = s.par)
    (h : Landed i b s t) : Exchanged i [b] s t := by
  refine ⟨hpar, readBuf_eq_of_bytes hpar .pbTx fun j hj => h.1 _ fun ⟨hlo, hhi⟩ => ?_,
    fun hrace => take_pbRx_of_landed hi hpar hrace h⟩
  exact base_add_not_mem s (b := .pbTx) (c := .pbRx) (by decide) hj ⟨by omega, by omega⟩

/-- A byte is exchanged: the last one ends the exchange, another one is followed by the delay. -/
theorem step_pacedXfer {s : State} {i : Nat} {b : Byte} {more : List PbReply} {rest : List Stimulus}
    (ready : PacedReady i (.byte b :: more) (.move .controller :: rest) s) (hi : i < s.par.n) :
    ∃ t, step s = .next t ∧ Exchanged i [b] s t ∧ Saw [pacedCall (s.bufByte .pbTx i) b] s t ∧
      t.idx = s.idx ∧ t.env.pbStream = more ∧
      Ready (if i = s.par.n - 1 then St.pbReceived else St.requestPb)
        (if i = s.par.n - 1 then Op.none else Op.pacedDelay) rest t := by
  have hdraw := pbDraw_cons s.par.block (s.withInbox rest).env (.byte b) more ready.replies
  obtain ⟨rfl⟩ := ready.idx
  obtain ⟨t, hexec, hgoto, htrace, hland, henv, same⟩ := (requestPbSendsOneByte (s.withInbox rest) _ hi).1 b hdraw
  have hall : SameBut [.op, .stateReg, .mem, .pbPending, .trace, .env] s t :=
    (sameBut_withInbox s rest).trans same (by simp)
  have hland : Landed s.idx.toNat b s t := hland
  change if s.idx.toNat = s.par.n - 1 then t.op = Op.none ∧ t.stateReg = St.pbReceived
    else t.op = Op.pacedDelay ∧ t.stateReg = s.stateReg at hgoto
  rw [ready.stateReg] at hgoto
  have hnext : t.stateReg = (if s.idx.toNat = s.par.n - 1 then St.pbReceived else St.requestPb) ∧
      t.op = (if s.idx.toNat = s.par.n - 1 then Op.none else Op.pacedDelay) := by
    split at hgoto
    case isTrue hlast => simp [hlast, hgoto]
    case isFalse hmore => simp [hmore, hgoto]
  exact ⟨t, ready.step.trans hexec, exchanged_of_landed hi (hall .par (by decide)) hland, saw_of_call rfl htrace,
    hall .idx (by decide), congrArg (·.pbStream) henv,
    ready.of_sameBut hall (by decide) (by decide) hnext.1 hnext.2 (congrArg (·.inbox) henv)⟩

/-- The delay goes on to the next byte. -/
theorem step_pacedDelay {s : State} {rest : List Stimulus}
    (ready : Ready St.requestPb Op.pacedDelay (.move .controller :: rest) s) (hi : s.idx.toNat + 1 < s.par.n) :
    ∃ t, step s = .next t ∧ PacedReady (s.idx.toNat + 1) s.env.pbStream rest t ∧ Saw [.delay s.par.paceDelay] s t ∧
      SameBut [.idx, .op, .trace, .env] s t := by
  obtain ⟨t, hexec, hidx, hop, htrace, same⟩ := requestPbDelayAdvancesTheIndex (s.withInbox rest)
  have hall : SameBut [.idx, .op, .trace, .env] s t := (sameBut_withInbox s rest).trans same (by simp)
  have henv : t.env = (s.withInbox rest).env := same .env (by decide)
  exact ⟨t, ready.step.trans hexec,
    ⟨ready.of_sameBut hall (by decide) (by decide) ((hall .stateReg (by decide)).trans ready.stateReg) hop
      (congrArg (·.inbox) henv), (congrArg BitVec.toNat hidx).trans (idx_succ_toNat hi), congrArg (·.pbStream) henv⟩,
    saw_of_delay htrace, hall⟩

/-- Every byte but the last: the transaction, the delay. -/
theorem runs_pacedRound {s : State} {i : Nat} {b : Byte} {more : List PbReply} {rest : List Stimulus}
    (ready : PacedReady i (.byte b :: more) (.move .controller :: .move .controller :: rest) s) (hi : i + 1 < s.par.n) :
    ∃ t, Runs 2 s t ∧ PacedReady (i + 1) more rest t ∧ Exchanged i [b] s t ∧
      Saw [pacedCall (s.bufByte .pbTx i) b, .delay s.par.paceDelay] s t := by
  obtain ⟨u, hxfer, hsent, hcall, hidx, hstream, readyDelay⟩ := step_pacedXfer ready (by omega)
  rw [if_neg (by omega), if_neg (by omega)] at readyDelay
  have hidxu : u.idx.toNat = i := (congrArg BitVec.toNat hidx).trans ready.idx
  obtain ⟨t, hdelay, readyNext, hpause, same⟩ := step_pacedDelay readyDelay (by rw [hidxu, hsent.par]; exact hi)
  rw [hidxu, hstream] at readyNext
  rw [hsent.par] at hpause
  exact ⟨t, (Runs.one hdelay).step hxfer, readyNext, hsent.of_sameBut same (by decide) (by decide),
    hcall.trans hpause⟩

/-- Bytes from `i` on, as long as the PB answers and a byte is left after them. -/
theorem runs_pacedRounds {s : State} {i : Nat} {bs : List Byte} {more : List PbReply} {rest : List Stimulus}
    (ready : PacedReady i (bs.map PbReply.byte ++ more) (List.replicate (2 * bs.length) (.move .controller) ++ rest) s)
    (hi : i + bs.length < s.par.n) :
    ∃ t, Runs (2 * bs.length) s t ∧ PacedReady (i + bs.length) more rest t ∧ Exchanged i bs s t ∧
      Saw ((pacedCalls s i bs).flatMap fun call => [call, .delay s.par.paceDelay]) s t := by
  induction bs generalizing i s with
  | nil => exact ⟨s, Runs.refl s, ready, Exchanged.nil i s, by simpa [pacedCalls] using Saw.refl s⟩
  | cons b bs ih =>
    rw [List.length_cons] at hi
    obtain ⟨u, hround, readyu, hsent, hseen⟩ := runs_pacedRound ready (by omega)
    obtain ⟨t, hrounds, readyt, hrest, hseenRest⟩ := ih readyu (by rw [hsent.par]; omega)
    rw [pacedCalls_congr hsent.pbTx, hsent.par] at hseenRest
    have hcount : i + 1 + bs.length = i + (b :: bs).length := by rw [List.length_cons]; omega
    refine ⟨t, ?_, hcount ▸ readyt, hsent.trans hrest, ?_⟩
    · exact (Nat.add_comm 2 _ ▸ hround.trans hrounds :)
    · rw [pacedCalls_cons s (by omega), List.flatMap_cons]
      exact hseen.trans hseenRest

/-- A whole exchange: bytes 0 to N-2 with their delays, then the last byte. -/
theorem runs_pacedExchange {s : State} {bs : List Byte} {more : List PbReply} {rest : List Stimulus}
    (ready : PacedReady 0 (bs.map PbReply.byte ++ more)
      (List.replicate (2 * s.par.n - 1) (.move .controller) ++ rest) s)
    (hlength : bs.length = s.par.n) :
    ∃ t, Runs (2 * s.par.n - 1) s t ∧ Ready St.pbReceived Op.none rest t ∧ Exchanged 0 bs s t ∧
      Saw (List.intersperse (.delay s.par.paceDelay) (pacedCalls s 0 bs)) s t := by
  have hn := s.par.n_ge
  obtain rfl | ⟨bs, b, rfl⟩ := List.eq_nil_or_concat' bs
  case inl =>
    rw [List.length_nil] at hlength
    omega
  rw [List.length_append, List.length_singleton] at hlength
  have hsteps : 2 * s.par.n - 1 = 2 * bs.length + 1 := by omega
  rw [hsteps] at ready ⊢
  rw [List.map_append, List.append_assoc, List.replicate_succ', List.append_assoc] at ready
  obtain ⟨u, hrounds, readyu, hsent, hseen⟩ := runs_pacedRounds ready (by omega)
  obtain ⟨t, hlast, hsentLast, hcall, -, -, readyt⟩ := step_pacedXfer readyu (by rw [hsent.par]; omega)
  have hend : 0 + bs.length = u.par.n - 1 := by rw [hsent.par]; omega
  rw [if_pos hend, if_pos hend] at readyt
  refine ⟨t, hrounds.trans (Runs.one hlast), readyt, hsent.trans hsentLast, ?_⟩
  rw [hsent.bufByte_pbTx (by omega)] at hcall
  rw [pacedCalls_concat s (by omega), intersperse_concat]
  exact hseen.trans hcall

/-- Settles O54: what the exchange did, read off for the whole frame. -/
theorem pacedExchangeSendsTheWholeFrame : Obligations.PacedExchangeSendsTheWholeFrame := by
  intro s bs more rest hst hop hidx hfaulted hpending hlength hreplies hinbox
  have ready : PacedReady 0 _ _ s := ⟨⟨hst, hop, hfaulted, hpending, hinbox⟩, congrArg BitVec.toNat hidx, hreplies⟩
  obtain ⟨t, hrun, readyt, hsent, es, htrace, hseen⟩ := runs_pacedExchange ready hlength
  refine ⟨t, es, hrun, readyt.stateReg, readyt.op, readyt.faulted, htrace, hseen, fun hrace => ?_⟩
  have hall := hsent.pbRx hrace
  rwa [Nat.zero_add, List.take_of_length_le (by simp [hsent.par, hlength]), List.take_zero, List.nil_append] at hall

/-! A failing call -/

/-- The PB does not answer byte `i`: fault 0x24, with STATE, OP and IDX as they were. -/
theorem step_pacedXfer_of_fail {s : State} {i : Nat} {more : List PbReply} {rest : List Stimulus}
    (ready : PacedReady i (.fail :: more) (.move .controller :: rest) s) (hi : i < s.par.n) :
    ∃ t, step s = .next t ∧ FaultEntered 0x24#8 (.xfer .pb .pacedByte [s.bufByte .pbTx i] .fail none) [] s t := by
  have hdraw := pbDraw_cons s.par.block (s.withInbox rest).env .fail more ready.replies
  obtain ⟨rfl⟩ := ready.idx
  obtain ⟨t, hexec, hfault, hcause, htrace, same⟩ := (requestPbSendsOneByte (s.withInbox rest) _ hi).2 hdraw
  exact ⟨t, ready.step.trans hexec, hfault, hcause, htrace, (sameBut_withInbox s rest).trans same (by simp)⟩

/-- Settles O55: the bytes before the failing one are exchanged as ever. -/
theorem pacedFailureStopsTheExchange : Obligations.PacedFailureStopsTheExchange := by
  intro s bs more rest hst hop hidx hfaulted hpending hlength hreplies hinbox
  rw [List.replicate_succ', List.append_assoc] at hinbox
  have ready : PacedReady 0 _ _ s := ⟨⟨hst, hop, hfaulted, hpending, hinbox⟩, congrArg BitVec.toNat hidx, hreplies⟩
  obtain ⟨u, hrounds, readyu, hsent, es, htraceu, hseen⟩ := runs_pacedRounds ready (by omega)
  obtain ⟨t, hlast, hfault, hcause, htrace, same⟩ := step_pacedXfer_of_fail readyu (by rw [hsent.par]; omega)
  rw [hsent.bufByte_pbTx (by omega), Nat.zero_add, htraceu, List.append_assoc] at htrace
  refine ⟨t, _, hrounds.trans (Runs.one hlast), hfault, hcause, (same .stateReg (by decide)).trans readyu.stateReg,
    (same .op (by decide)).trans readyu.op, ?_, htrace, ?_⟩
  · exact (congrArg BitVec.toNat (same .idx (by decide))).trans (readyu.idx.trans (Nat.zero_add _))
  · rw [intersperse_concat]
    exact (List.filter_append ..).trans (congrArg (· ++ _) hseen)

end Sys2Proof.Machine
end

section
/-! PROOFS. The SyncPB scan (42 R91 to R93), as a run: a probe that is answered by another byte than the marker is followed
by a delay until the attempts are used up. -/

namespace Sys2Proof.Machine

/-- The probe that the PB answers. -/
def probeCall (b : Byte) : Event := .xfer .pb .probe [0x00#8] .ok (some [b])

/-- The controller is about to probe after `a` attempts, and `replies` are what the PB answers next. -/
structure ProbeReady (a : Nat) (replies : List PbReply) (inbox : List Stimulus) (s : State) : Prop
    extends Ready St.syncingPb Op.syncpbProbe inbox s where
  attempt : s.attempt.toNat = a
  replies : s.env.pbStream = replies

/-- An answered probe counts an attempt; what the controller does next depends on the byte and the count. -/
theorem step_probe {s : State} {a : Nat} {b : Byte} {more : List PbReply} {rest : List Stimulus}
    (ready : ProbeReady a (.byte b :: more) (.move .controller :: rest) s) :
    ∃ t, step s = .next t ∧ t.attempt = s.attempt + 1#8 ∧ Saw [probeCall b] s t ∧
      (if b = s.par.markerPb then t.pbSynced = true ∧ t.op = Op.none ∧ t.stateReg = St.syncedPb
       else if (s.attempt + 1#8).toNat = s.par.maxAttempts then
         t.pbSynced = false ∧ t.op = Op.none ∧ t.stateReg = St.syncedPb
       else t.pbSynced = s.pbSynced ∧ t.op = Op.syncpbDelay ∧ t.stateReg = s.stateReg) ∧
      t.env = { s.env with inbox := rest, pbStream := more }.tick ∧
      SameBut [.attempt, .pbSynced, .op, .stateReg, .mem, .pbPending, .trace, .env] s t := by
  have hdraw := pbDraw_cons s.par.block (s.withInbox rest).env (.byte b) more ready.replies
  obtain ⟨t, hexec, hattempt, hdecided, htrace, -, henv, same⟩ :=
    (syncPbProbeDecides (s.withInbox rest) _).1 b hdraw
  exact ⟨t, ready.step.trans hexec, hattempt, saw_of_call rfl htrace, hdecided, henv,
    (sameBut_withInbox s rest).trans same (by simp)⟩

/-- The delay goes back to the probe. -/
theorem step_probeDelay {s : State} {rest : List Stimulus}
    (ready : Ready St.syncingPb Op.syncpbDelay (.move .controller :: rest) s) :
    ∃ t, step s = .next t ∧ ProbeReady s.attempt.toNat s.env.pbStream rest t ∧ Saw [.delay s.par.retryDelay] s t ∧
      t.par = s.par := by
  obtain ⟨t, hexec, hop, htrace, same⟩ := syncPbDelayReturnsToProbe (s.withInbox rest)
  have hall : SameBut [.op, .trace, .env] s t := (sameBut_withInbox s rest).trans same (by simp)
  have henv : t.env = (s.withInbox rest).env := same .env (by decide)
  exact ⟨t, ready.step.trans hexec,
    ⟨ready.of_sameBut hall (by decide) (by decide) ((hall .stateReg (by decide)).trans ready.stateReg) hop
      (congrArg (·.inbox) henv), congrArg BitVec.toNat (hall .attempt (by decide)), congrArg (·.pbStream) henv⟩,
    saw_of_delay htrace, hall .par (by decide)⟩

/-- A probe in vain with attempts left: the probe, the delay. -/
theorem runs_probeRound {s : State} {a : Nat} {b : Byte} {more : List PbReply} {rest : List Stimulus}
    (ready : ProbeReady a (.byte b :: more) (.move .controller :: .move .controller :: rest) s)
    (hb : b ≠ s.par.markerPb) (ha : a + 1 < s.par.maxAttempts) :
    ∃ t, Runs 2 s t ∧ ProbeReady (a + 1) more rest t ∧ t.par = s.par ∧
      Saw [probeCall b, .delay s.par.retryDelay] s t := by
  obtain ⟨u, hprobe, hattempt, hcall, hdecided, henv, same⟩ := step_probe ready
  have hcount : (s.attempt + 1#8).toNat = a + 1 :=
    (attempt_succ_toNat (p := s.par) (by rw [ready.attempt]; omega)).trans (congrArg (· + 1) ready.attempt)
  rw [if_neg hb, if_neg (by omega)] at hdecided
  obtain ⟨-, hop, hst⟩ := hdecided
  have hpar : u.par = s.par := same .par (by decide)
  obtain ⟨t, hdelay, readyt, hpause, hpart⟩ := step_probeDelay
    (ready.of_sameBut same (by decide) (by decide) (hst.trans ready.stateReg) hop (congrArg (·.inbox) henv))
  rw [hattempt, hcount, henv] at readyt
  exact ⟨t, (Runs.one hdelay).step hprobe, readyt, hpart.trans hpar, hcall.trans (hpar ▸ hpause)⟩

/-- Probes in vain, as long as an attempt is left after them. -/
theorem runs_probeRounds {s : State} {a : Nat} {bs : List Byte} {more : List PbReply} {rest : List Stimulus}
    (ready : ProbeReady a (bs.map PbReply.byte ++ more) (List.replicate (2 * bs.length) (.move .controller) ++ rest) s)
    (hbs : ∀ b ∈ bs, b ≠ s.par.markerPb) (ha : a + bs.length < s.par.maxAttempts) :
    ∃ t, Runs (2 * bs.length) s t ∧ ProbeReady (a + bs.length) more rest t ∧ t.par = s.par ∧
      Saw ((bs.map probeCall).flatMap fun call => [call, .delay s.par.retryDelay]) s t := by
  induction bs generalizing a s with
  | nil => exact ⟨s, Runs.refl s, ready, rfl, Saw.refl s⟩
  | cons b bs ih =>
    rw [List.length_cons] at ha
    obtain ⟨hb, hrest⟩ := List.forall_mem_cons.mp hbs
    obtain ⟨u, hround, readyu, hpar, hseen⟩ := runs_probeRound ready hb (by omega)
    obtain ⟨t, hrounds, readyt, hpart, hseenRest⟩ := ih readyu (hpar ▸ hrest) (by rw [hpar]; omega)
    have hcount : a + 1 + bs.length = a + (b :: bs).length := by rw [List.length_cons]; omega
    rw [hpar] at hseenRest
    exact ⟨t, (Nat.add_comm 2 _ ▸ hround.trans hrounds :), hcount ▸ readyt, hpart.trans hpar, hseen.trans hseenRest⟩

/-- Settles O56: all probes but the last are followed by a delay, the last one uses up the attempts. -/
theorem syncPbGivesUpAfterKProbes : Obligations.SyncPbGivesUpAfterKProbes := by
  intro s bs more rest hst hop hattempt hfaulted hpending hlength hbs hreplies hinbox
  have hk := s.par.attempts_range.1
  obtain rfl | ⟨bs, b, rfl⟩ := List.eq_nil_or_concat' bs
  case inl =>
    rw [List.length_nil] at hlength
    omega
  rw [List.length_append, List.length_singleton] at hlength
  have hsteps : 2 * s.par.maxAttempts - 1 = 2 * bs.length + 1 := by omega
  rw [hsteps] at hinbox ⊢
  rw [List.replicate_succ', List.append_assoc] at hinbox
  rw [List.map_append, List.append_assoc] at hreplies
  obtain ⟨hinit, hb⟩ := List.forall_mem_append.mp hbs
  have ready : ProbeReady 0 _ _ s :=
    ⟨⟨hst, hop, hfaulted, hpending, hinbox⟩, congrArg BitVec.toNat hattempt, hreplies⟩
  obtain ⟨u, hrounds, readyu, hpar, hseen⟩ := runs_probeRounds ready hinit (by omega)
  obtain ⟨t, hlast, hattemptt, hcall, hdecided, -, same⟩ := step_probe readyu
  have hcount : (u.attempt + 1#8).toNat = s.par.maxAttempts := by
    rw [attempt_succ_toNat (p := s.par) (by rw [readyu.attempt]; omega), readyu.attempt]
    omega
  rw [hpar, if_neg (hb b (List.mem_singleton_self b)), if_pos hcount] at hdecided
  obtain ⟨hsynced, hopt, hstt⟩ := hdecided
  obtain ⟨es, htrace, hes⟩ := hseen.trans hcall
  refine ⟨t, es, hrounds.trans (Runs.one hlast), hstt, hopt, hsynced,
    (same .faulted (by decide)).trans readyu.faulted, (congrArg BitVec.toNat hattemptt).trans hcount, htrace, ?_⟩
  rw [List.map_append, List.map_singleton, intersperse_concat]
  exact hes

end Sys2Proof.Machine
end

section
/-! PROOFS. Every code in use is reached (43 R116): one script of the environment leads from a power-on reset through the
synchronization and one whole relay in both directions, and every code is the STATE of a state on that way. -/

namespace Sys2Proof.Machine

/-! The script -/

/-- The rest of a frame that begins with the LCD's marker and is valid. -/
def tourTail (p : Params) : List Byte :=
  List.replicate (p.n - 2) 0x00#8 ++ [chk p .lcd (p.markerLcd :: List.replicate (p.n - 2) 0x00#8)]

/-- What the agents do from RequestPB on: the exchange, and the micro-step that ends the round. -/
def exchangeInbox (p : Params) : List Stimulus := List.replicate (2 * p.n - 1) (.move .controller) ++ [.move .controller]

/-- What they do from RequestLCD on: the start, its END, the relay to the PB. -/
def roundInbox (p : Params) : List Stimulus :=
  .move .controller :: .move (.event 0b10#2) :: .move .controller :: exchangeInbox p

/-- The answers of the PB in the exchange. -/
def tourFrame (p : Params) : List Byte := List.replicate p.n 0x00#8

/-- An environment of the tour: what is left of the inbox and of the two streams. -/
def tourEnv (p : Params) (inbox : List Stimulus) (lcd : List Wire) (pb : List PbReply) (draws : Nat) : Env where
  inbox := inbox
  lcdStream := lcd
  pbStream := pb
  starts := [.ok]
  dones := [.done (tourFrame p)]
  draws := draws

/-- The whole script: six micro-steps to RequestLCD, and one round. -/
def tourStart (p : Params) : Env :=
  tourEnv p (List.replicate 6 (.move .controller) ++ roundInbox p) (.byte p.markerLcd :: (tourTail p).map Wire.byte)
    (.byte p.markerPb :: (tourFrame p).map PbReply.byte) 0

/-- The checksum of a body makes a valid frame of it (40 R76). -/
theorem validFrame_concat_chk {p : Params} {ch : Port} {b : List Byte} (h : b.length + 1 = p.n) :
    validFrame p ch (b ++ [chk p ch b]) = true := by
  have hlast : p.n - 1 = b.length := by omega
  rw [validFrame_iff, chkByte, body, hlast, List.take_left']
  · simp
  · rfl

theorem tourTail_length (p : Params) : (tourTail p).length = p.n - 1 := by
  have hn := p.n_ge
  simp only [tourTail, List.length_append, List.length_replicate, List.length_singleton]
  omega

theorem validFrame_tourTail (p : Params) : validFrame p .lcd (p.markerLcd :: tourTail p) = true := by
  have hn := p.n_ge
  refine validFrame_concat_chk (b := p.markerLcd :: List.replicate (p.n - 2) 0x00#8) ?_
  simp only [List.length_cons, List.length_replicate]
  omega

/-! A state of the tour before its round -/

/-- The controller is free at a pair, no burst is in flight, and the environment holds what is left of the script. -/
structure Touring (p : Params) (st : BitVec 4) (o : BitVec 3) (script : List Stimulus) (lcd : List Wire)
    (pb : List PbReply) (s : State) : Prop extends Ready st o script s where
  par : s.par = p
  lcdBusy : s.lcdBusy = false
  env : ∃ d, s.env = tourEnv p script lcd pb d

section
variable {p : Params} {st st' : BitVec 4} {o o' : BitVec 3} {rest : List Stimulus} {lcd lcd' : List Wire}
  {pb pb' : List PbReply} {s t : State} {w : List Field}

theorem Touring.env_withInbox (h : Touring p st o (.move .controller :: rest) lcd pb s) :
    ∃ d, (s.withInbox rest).env = tourEnv p rest lcd pb d := by
  obtain ⟨d, henv⟩ := h.env
  exact ⟨d, by rw [State.withInbox, henv]; rfl⟩

/-- A row that draws from the streams. -/
theorem Touring.step_of_draw (h : Touring p st o (.move .controller :: rest) lcd pb s)
    (hexec : exec (decodeStep o st) (s.withInbox rest) = .next t) (same : SameBut w (s.withInbox rest) t)
    (hw : ∀ f ∈ [Field.par, .faulted, .srstPending, .lcdBusy], f ∉ w) (hst : t.stateReg = st') (hop : t.op = o')
    (henv : ∃ d, t.env = tourEnv p rest lcd' pb' d) :
    step s = .next t ∧ Touring p st' o' rest lcd' pb' t := by
  obtain ⟨d, henv⟩ := henv
  exact ⟨h.step.trans hexec,
    ⟨hst, hop, (same .faulted (hw _ (by decide))).trans h.faulted,
      (same .srstPending (hw _ (by decide))).trans h.srstPending, congrArg (·.inbox) henv⟩,
    (same .par (hw _ (by decide))).trans h.par, (same .lcdBusy (hw _ (by decide))).trans h.lcdBusy, d, henv⟩

/-- A row that draws nothing. -/
theorem Touring.step_of_pass (h : Touring p st o (.move .controller :: rest) lcd pb s)
    (hexec : exec (decodeStep o st) (s.withInbox rest) = .next t) (same : SameBut w (s.withInbox rest) t)
    (hw : ∀ f ∈ [Field.par, .faulted, .srstPending, .lcdBusy, .env], f ∉ w) (hst : t.stateReg = st')
    (hop : t.op = o') : step s = .next t ∧ Touring p st' o' rest lcd pb t := by
  obtain ⟨d, henv⟩ := h.env_withInbox
  exact h.step_of_draw hexec same (fun f hf => hw f (List.mem_append_left [Field.env] hf)) hst hop
    ⟨d, (same .env (hw _ (by decide))).trans henv⟩

/-! Synchronization -/

theorem step_init (h : Touring p St.init Op.none (.move .controller :: rest) lcd pb s) :
    ∃ t, step s = .next t ∧ Touring p St.syncingPb Op.syncpbProbe rest lcd pb t := by
  obtain ⟨t, hexec, -, hop, hst, same⟩ := initBeginsSynchronization (s.withInbox rest)
  exact ⟨t, h.step_of_pass hexec same (by decide) hst hop⟩

theorem step_syncedPb (h : Touring p St.syncedPb Op.none (.move .controller :: rest) lcd pb s) :
    ∃ t, step s = .next t ∧ Touring p St.syncingLcd Op.synclcdProbe rest lcd pb t := by
  obtain ⟨t, hexec, hop, hst, same⟩ := (passingStatesGoOn (s.withInbox rest)).1
  exact ⟨t, h.step_of_pass hexec same (by decide) hst hop⟩

theorem step_syncedLcd (h : Touring p St.syncedLcd Op.none (.move .controller :: rest) lcd pb s) :
    ∃ t, step s = .next t ∧ Touring p St.requestLcd Op.none rest lcd pb t := by
  obtain ⟨t, hexec, hst, same⟩ := (passingStatesGoOn (s.withInbox rest)).2.1
  exact ⟨t, h.step_of_pass hexec same (by decide) hst ((same .op (by decide)).trans h.op)⟩

/-- The PB answers the first probe with its marker. -/
theorem step_syncPb (h : Touring p St.syncingPb Op.syncpbProbe (.move .controller :: rest) lcd
      (.byte p.markerPb :: pb) s) :
    ∃ t, step s = .next t ∧ Touring p St.syncedPb Op.none rest lcd pb t := by
  obtain ⟨d, henv⟩ := h.env_withInbox
  obtain ⟨t, hexec, -, hsynced, -, -, henvt, same⟩ := (syncPbProbeDecides (s.withInbox rest) _).1 p.markerPb
    (pbDraw_cons s.par.block _ _ pb (congrArg (·.pbStream) henv))
  have hpar : (s.withInbox rest).par = p := h.par
  rw [hpar, if_pos rfl] at hsynced
  obtain ⟨-, hop, hst⟩ := hsynced
  rw [henv] at henvt
  exact ⟨t, h.step_of_draw hexec same (by decide) hst hop ⟨d + 1, henvt⟩⟩

/-- The LCD answers the first probe with its marker. -/
theorem step_syncLcdProbe (h : Touring p St.syncingLcd Op.synclcdProbe (.move .controller :: rest)
      (.byte p.markerLcd :: lcd) pb s) :
    ∃ t, step s = .next t ∧ Touring p St.syncingLcd Op.synclcdTail rest lcd pb t ∧
      t.bufByte .lcdRx 0 = p.markerLcd := by
  obtain ⟨d, henv⟩ := h.env_withInbox
  obtain ⟨-, -, -, scanned⟩ := syncLcdProbeScans (s.withInbox rest) _
  obtain ⟨t, hexec, hbyte, -, hop, -, henvt, same⟩ := scanned p.markerLcd h.lcdBusy
    (lcdDraw_bytes s.par.block _ [p.markerLcd] lcd (congrArg (·.lcdStream) henv))
  have hpar : (s.withInbox rest).par = p := h.par
  rw [hpar, if_pos rfl] at hop
  rw [henv] at henvt
  obtain ⟨hstep, ht⟩ := h.step_of_draw hexec same (by decide) ((same .stateReg (by decide)).trans h.stateReg) hop
    ⟨d + 1, henvt⟩
  exact ⟨t, hstep, ht, hbyte⟩

theorem syncLcdDecide_env (s : State) : (syncLcdDecide s).env = s.env := by
  unfold syncLcdDecide
  split <;> rfl

theorem stepSynclcdTail_env {e : Env} {rx : List Byte} (hb : s.lcdBusy = false)
    (hd : lcdDraw s.par.block (s.par.n - 1) s.env = (.ok rx, e)) (h : exec .stepSynclcdTail s = .next t) :
    t.env = e := by
  rw [← syncTailTx_length s] at hd
  cases (exec_stepSynclcdTail_of_ok hb hd).symm.trans h
  rw [syncLcdDecide_env, State.writeBytes_env]
  rfl

/-- The rest of the frame makes it valid. -/
theorem step_syncLcdTail (h : Touring p St.syncingLcd Op.synclcdTail (.move .controller :: rest)
      ((tourTail p).map Wire.byte) pb s) (hmarker : s.bufByte .lcdRx 0 = p.markerLcd) :
    ∃ t, step s = .next t ∧ Touring p St.syncedLcd Op.none rest [] pb t := by
  obtain ⟨d, henv⟩ := h.env_withInbox
  obtain ⟨-, -, -, validated⟩ := syncLcdTailValidates (s.withInbox rest) _
  have hdraw := lcdDraw_bytes s.par.block (s.withInbox rest).env (tourTail p) []
    ((congrArg (·.lcdStream) henv).trans (List.append_nil _).symm)
  have hpar : (s.withInbox rest).par = p := h.par
  have hbyte : (s.withInbox rest).bufByte .lcdRx 0 = p.markerLcd := hmarker
  rw [tourTail_length, ← hpar] at hdraw
  obtain ⟨t, hexec, -, -, hvalid, same⟩ := validated _ h.lcdBusy hdraw
  rw [hpar, hbyte, if_pos (validFrame_tourTail p)] at hvalid
  obtain ⟨hst, hop, -⟩ := hvalid
  have henvt := stepSynclcdTail_env (s := s.withInbox rest) h.lcdBusy hdraw hexec
  rw [henv] at henvt
  exact ⟨t, h.step_of_draw hexec same (by decide) hst hop ⟨d + 1, henvt⟩⟩

end

/-! The way from a state -/

/-- Some run from here ends with `code` in STATE and no fault. -/
def Reaches (s : State) (code : BitVec 4) : Prop := ∃ k t, Runs k s t ∧ t.stateReg = code ∧ t.faulted = false

section
variable {st code : BitVec 4} {o : BitVec 3} {inbox : List Stimulus} {codes : List (BitVec 4)} {k : Nat} {s t : State}

theorem Ready.reaches (h : Ready st o inbox s) : Reaches s st := ⟨0, s, Runs.refl s, h.stateReg, h.faulted⟩

theorem Reaches.of_runs (h : Runs k s t) (hreach : Reaches t code) : Reaches s code := by
  obtain ⟨l, u, hrun, hcode, hfault⟩ := hreach
  exact ⟨k + l, u, h.trans hrun, hcode, hfault⟩

/-- A state reaches its own code and those of the states after it. -/
theorem Ready.reaches_cons (h : Ready st o inbox s) (hrun : Runs k s t) (hrest : ∀ c ∈ codes, Reaches t c) :
    ∀ c ∈ st :: codes, Reaches s c :=
  List.forall_mem_cons.mpr ⟨h.reaches, fun c hc => (hrest c hc).of_runs hrun⟩

end

/-- PBReceived ends the round whether the frame is valid or not (43 R111). -/
theorem reaches_of_pbReceived {s : State} (ready : Ready St.pbReceived Op.none [.move .controller] s) :
    ∀ c ∈ [St.pbReceived, St.idle], Reaches s c := by
  obtain ⟨forwarded, counted⟩ := pbReceivedForwardsOrCounts (s.withInbox [])
  have hidle : ∃ t, step s = .next t ∧ t.stateReg = St.idle ∧ t.faulted = s.faulted := by
    cases hvalid : validFrame s.par .pb (s.readBuf .pbRx) with
    | true =>
      obtain ⟨t, hexec, -, -, -, hst, -, same⟩ := forwarded hvalid
      exact ⟨t, ready.step.trans hexec, hst, same .faulted (by decide)⟩
    | false =>
      obtain ⟨t, hexec, -, -, hst, -, same⟩ := counted hvalid
      exact ⟨t, ready.step.trans hexec, hst, same .faulted (by decide)⟩
  obtain ⟨t, hstep, hst, hfaulted⟩ := hidle
  exact ready.reaches_cons (Runs.one hstep)
    (List.forall_mem_singleton.mpr ⟨0, t, Runs.refl t, hst, hfaulted.trans ready.faulted⟩)

theorem reaches_of_requestPb {s : State} {bs : List Byte} (hlength : bs.length = s.par.n)
    (ready : PacedReady 0 (bs.map PbReply.byte) (exchangeInbox s.par) s) :
    ∀ c ∈ [St.requestPb, St.pbReceived, St.idle], Reaches s c := by
  obtain ⟨t, hrun, readyt, -, -⟩ := runs_pacedExchange (more := []) (by simpa [exchangeInbox] using ready) hlength
  exact ready.toReady.reaches_cons hrun (reaches_of_pbReceived readyt)

/-- One round from RequestLCD, whatever the frames of both boards are. -/
theorem reaches_of_requestLcd {p : Params} {s : State}
    (h : Touring p St.requestLcd Op.none (roundInbox p) [] ((tourFrame p).map PbReply.byte) s) :
    ∀ c ∈ [St.requestLcd, St.awaitingLcd, St.lcdReceived, St.requestPb, St.pbReceived, St.idle], Reaches s c := by
  obtain rfl := h.par
  obtain ⟨d, henv⟩ := h.env
  have hlength : (tourFrame s.par).length = s.par.n := List.length_replicate
  obtain ⟨u, hstart, readyu, hflying, henvu, sameu⟩ :=
    step_requestLcd h.toReady h.lcdBusy (congrArg (·.starts) henv)
  have hparu : u.par = s.par := sameu .par (by decide)
  rw [henv] at henvu
  obtain ⟨v, hdone, readyv, -, -, henvv, samev⟩ :=
    step_done_awaitingLcd readyu hflying (congrArg (·.dones) henvu) (by rw [hparu]; exact hlength)
  have hparv : v.par = s.par := (samev .par (by decide)).trans hparu
  obtain ⟨w, hreceived, readyw, hidx, henvw, hparw, -⟩ := step_lcdReceived readyv
  have hpar : w.par = s.par := hparw.trans hparv
  rw [henvv, henvu] at henvw
  have readyPb : PacedReady 0 ((tourFrame s.par).map PbReply.byte) (exchangeInbox w.par) w :=
    ⟨hpar ▸ readyw, congrArg BitVec.toNat hidx, congrArg (·.pbStream) henvw⟩
  exact h.toReady.reaches_cons (Runs.one hstart) (readyu.reaches_cons (Runs.one hdone)
    (readyv.reaches_cons (Runs.one hreceived) (reaches_of_requestPb (hpar ▸ hlength) readyPb)))

theorem touring_powerOn (s : State) :
    Touring s.par St.init Op.none (tourStart s.par).inbox (tourStart s.par).lcdStream (tourStart s.par).pbStream
      (powerOn (s.withEnv (tourStart s.par))) :=
  ⟨⟨rfl, rfl, rfl, rfl, rfl⟩, rfl, rfl, 0, rfl⟩

/-- The codes in the order of the tour. -/
def tourCodes : List (BitVec 4) :=
  [St.init, St.syncingPb, St.syncedPb, St.syncingLcd, St.syncingLcd, St.syncedLcd, St.requestLcd, St.awaitingLcd,
    St.lcdReceived, St.requestPb, St.pbReceived, St.idle]

theorem mem_tourCodes {code : BitVec 4} (h : unusedCode code = false) : code ∈ tourCodes := by
  revert code
  decide

theorem reaches_of_powerOn (s : State) : ∀ c ∈ tourCodes, Reaches (powerOn (s.withEnv (tourStart s.par))) c := by
  have tour := touring_powerOn s
  obtain ⟨u₁, hinit, tour₁⟩ := step_init tour
  obtain ⟨u₂, hprobe, tour₂⟩ := step_syncPb tour₁
  obtain ⟨u₃, hsyncedPb, tour₃⟩ := step_syncedPb tour₂
  obtain ⟨u₄, hmarker, tour₄, hbyte⟩ := step_syncLcdProbe tour₃
  obtain ⟨u₅, htail, tour₅⟩ := step_syncLcdTail tour₄ hbyte
  obtain ⟨u₆, hsyncedLcd, tour₆⟩ := step_syncedLcd tour₅
  exact tour.reaches_cons (.one hinit) (tour₁.reaches_cons (.one hprobe) (tour₂.reaches_cons (.one hsyncedPb)
    (tour₃.reaches_cons (.one hmarker) (tour₄.reaches_cons (.one htail) (tour₅.reaches_cons (.one hsyncedLcd)
      (reaches_of_requestLcd tour₆))))))

/-- Settles O58: the script is the same for every code; the code tells how far to follow it. -/
theorem everyUsedStateIsReached : Obligations.EveryUsedStateIsReached := by
  intro s code hcode
  obtain ⟨k, t, hrun, hst, hfaulted⟩ := reaches_of_powerOn s code (mem_tourCodes hcode)
  exact ⟨tourStart s.par, k, t, hrun, hst, hfaulted⟩

end Sys2Proof.Machine
end
